-- ==== Sys2Proof/Word.lean ====
section
/-! DEFINITION. The word types of the Voice core, named as 00_scope R7 names them. -/

namespace Sys2Proof

/-- A `u16` DAC code (glossary "Code"). -/
abbrev Code := BitVec 16

/-- A `u32` phase or phase increment; its `+` is the wrapping `+32` of 00_scope R11. -/
abbrev Phase := BitVec 32

/-- An `s16` pitch in units of 1/128 semitone; read it with `BitVec.toInt` (00_scope R7). -/
abbrev Pitch := BitVec 16

/-- The 40-bit command word `CMD[39:0]` (30_encoding R83). -/
abbrev CmdWord := BitVec 40

/-- One byte of a serialised command word or response (20_memory R62). -/
abbrev Byte := BitVec 8

end Sys2Proof
end

