-- ==== Sys2Proof/Syntax.lean ====
section
/-! DEFINITION. The commands of VOICECMD-1 as syntax: one constructor per row of the opcode map (30_encoding R85),
each operand at the width R84 gives it. -/

namespace Sys2Proof

/-- A command. Reserved and ignored bits of the word carry no meaning (30_encoding R87) and have no place here
(DESIGN CHOICE, safe, log 11); the two reserved opcodes are kept apart from NOP as R86 asks. -/
inductive Instr where
  /-- `0x0` NOP (R180). -/
  | nop
  /-- `0x1` INIT (R181). -/
  | init (rc : Bool)
  /-- `0x2` CAL_WRITE (R103). -/
  | calWrite (idx : BitVec 4) (code : Code)
  /-- `0x3` NOTE_ON (R175); `note` is an `s16`. -/
  | noteOn (note : Pitch) (velocity : BitVec 7) (amount : BitVec 7) (trigger : Bool)
  /-- `0x4` NOTE_OFF (R176). -/
  | noteOff
  /-- `0x5` CONTROL_CHANGE (R177). -/
  | controlChange (controller : BitVec 7) (value : BitVec 7)
  /-- `0x6` PITCH_BEND (R178). -/
  | pitchBend (bend : BitVec 14)
  /-- `0x7` CFG_WRITE (R179). -/
  | cfgWrite (reg : BitVec 4) (data : BitVec 32)
  /-- `0x8` REFRESH (R125). -/
  | refresh
  /-- `0x9` RD_NOTE (R106). -/
  | rdNote
  /-- `0xA` RD_TRIG (R164). -/
  | rdTrig
  /-- `0xB` RD_AUX (R146). -/
  | rdAux (ch : BitVec 3)
  /-- `0xC` RD_STATUS (R165). -/
  | rdStatus
  /-- `0xD` RD_CAL (R104). -/
  | rdCal (idx : BitVec 4)
  /-- `0xE`, reserved (R86). -/
  | reservedE
  /-- `0xF`, reserved (R86). -/
  | reservedF
deriving DecidableEq, Repr

end Sys2Proof
end

