-- ==== Sys2Proof/WellFormed.lean ====
section
/-! DEFINITION. Which operands a command accepts (30_encoding R84, R85), as a check over commands whose operands are
still plain integers, and what it says of an `Instr`. -/

namespace Sys2Proof

/-- The operands of 30_encoding R84. -/
inductive Operand where
  | rc | idx | code | note | velocity | amount | trigger | controller | value | bend | reg | data | ch
deriving DecidableEq, Repr

/-- Least and greatest value of an operand: the range column of R84 (`data` is 32 raw bits). -/
def Operand.range : Operand → Int × Int
  | .rc => (0, 1)
  | .idx => (0, 15)
  | .code => (0, 65535)
  | .note => (-32768, 32767)
  | .velocity => (0, 127)
  | .amount => (0, 127)
  | .trigger => (0, 1)
  | .controller => (0, 127)
  | .value => (0, 127)
  | .bend => (0, 16383)
  | .reg => (0, 15)
  | .data => (0, 4294967295)
  | .ch => (0, 7)

/-- The operand's field can hold this value. -/
def Operand.holds (o : Operand) (v : Int) : Bool :=
  decide (o.range.1 ≤ v) && decide (v ≤ o.range.2)

/-- The operands column of R85, in the order R88 writes them. -/
def operandsOf (opc : BitVec 4) : List Operand :=
  match opc.toNat with
  | 1 => [.rc]
  | 2 => [.idx, .code]
  | 3 => [.note, .velocity, .amount, .trigger]
  | 5 => [.controller, .value]
  | 6 => [.bend]
  | 7 => [.reg, .data]
  | 11 => [.ch]
  | 13 => [.idx]
  | _ => []

/-- A command before its operands are checked: an opcode and integers. -/
structure RawCommand where
  opc : BitVec 4
  operands : List Int
deriving DecidableEq, Repr

/-- Every operand is there, none is left over, each is in its range. -/
def operandsFit : List Operand → List Int → Bool
  | [], [] => true
  | o :: os, v :: vs => o.holds v && operandsFit os vs
  | _, _ => false

/-- The command names an encoding: its operands are those of R85 and each fits its field (R84). -/
def RawCommand.wellFormed (r : RawCommand) : Bool :=
  operandsFit (operandsOf r.opc) r.operands

/-- `CMD[39:36]` of a command (R85). -/
def Instr.opc : Instr → BitVec 4
  | .nop => 0x0#4
  | .init _ => 0x1#4
  | .calWrite _ _ => 0x2#4
  | .noteOn _ _ _ _ => 0x3#4
  | .noteOff => 0x4#4
  | .controlChange _ _ => 0x5#4
  | .pitchBend _ => 0x6#4
  | .cfgWrite _ _ => 0x7#4
  | .refresh => 0x8#4
  | .rdNote => 0x9#4
  | .rdTrig => 0xA#4
  | .rdAux _ => 0xB#4
  | .rdStatus => 0xC#4
  | .rdCal _ => 0xD#4
  | .reservedE => 0xE#4
  | .reservedF => 0xF#4

/-- The operands of a command as the integers R84 reads them as. -/
def Instr.operandValues : Instr → List Int
  | .nop => []
  | .init rc => [(rc.toNat : Int)]
  | .calWrite idx code => [(idx.toNat : Int), (code.toNat : Int)]
  | .noteOn note velocity amount trigger =>
      [note.toInt, (velocity.toNat : Int), (amount.toNat : Int), (trigger.toNat : Int)]
  | .noteOff => []
  | .controlChange controller value => [(controller.toNat : Int), (value.toNat : Int)]
  | .pitchBend bend => [(bend.toNat : Int)]
  | .cfgWrite reg data => [(reg.toNat : Int), (data.toNat : Int)]
  | .refresh => []
  | .rdNote => []
  | .rdTrig => []
  | .rdAux ch => [(ch.toNat : Int)]
  | .rdStatus => []
  | .rdCal idx => [(idx.toNat : Int)]
  | .reservedE => []
  | .reservedF => []

/-- A command with its operands as plain integers. -/
def Instr.raw (i : Instr) : RawCommand := { opc := i.opc, operands := i.operandValues }

/-- A command is well formed when its operands pass the check. The operand types of `Instr` are exactly as wide as the
ranges, so every `Instr` is (the per-instruction law `OperandsInRange`): R84 says no operand can be out of range. -/
abbrev Instr.WellFormed (i : Instr) : Prop := i.raw.wellFormed = true

end Sys2Proof
end

