-- ==== Sys2Proof/Decode.lean ====
section
/-! DEFINITION. Decoding a command word, its serialisation as bytes, and the encoder (30_encoding R83 to R87,
20_memory R62). -/

namespace Sys2Proof

/-- `v[lo + len - 1 : lo]` of 00_scope R6. -/
abbrev slice {w : Nat} (v : BitVec w) (lo len : Nat) : BitVec len := v.extractLsb' lo len

/-- The command a word stands for. Only `CMD[39:36]` selects it (R85); the operands are the fields of R84; all other
bits are ignored (R87). Every one of the 2^40 words has a command (60_exceptions R200). -/
def decodeWord (w : CmdWord) : Instr :=
  match (slice w 36 4).toNat with
  | 0x0 => .nop
  | 0x1 => .init (w.getLsbD 0)
  | 0x2 => .calWrite (slice w 16 4) (slice w 0 16)
  | 0x3 => .noteOn (slice w 0 16) (slice w 16 7) (slice w 23 7) (w.getLsbD 30)
  | 0x4 => .noteOff
  | 0x5 => .controlChange (slice w 8 7) (slice w 0 7)
  | 0x6 => .pitchBend (slice w 0 14)
  | 0x7 => .cfgWrite (slice w 32 4) (slice w 0 32)
  | 0x8 => .refresh
  | 0x9 => .rdNote
  | 0xA => .rdTrig
  | 0xB => .rdAux (slice w 0 3)
  | 0xC => .rdStatus
  | 0xD => .rdCal (slice w 16 4)
  | 0xE => .reservedE
  | _ => .reservedF  -- 0xF, the only value of four bits left

/-- Why bytes hold no command. -/
inductive DecodeError where
  /-- Fewer than the five bytes of a command word are there. Raised by `decodeBytes`; safe (log 10). -/
  | truncated (bytesThere : Nat)
deriving DecidableEq, Repr

/-- The word five bytes carry, most significant byte first (20_memory R62). -/
def wordOfBytes (b0 b1 b2 b3 b4 : Byte) : CmdWord := b0 ++ b1 ++ b2 ++ b3 ++ b4

/-- The five bytes of a word, most significant first (R62). -/
def bytesOfWord (w : CmdWord) : List Byte :=
  [slice w 32 8, slice w 24 8, slice w 16 8, slice w 8 8, slice w 0 8]

/-- The two bytes of a response, most significant first (R62). -/
def bytesOfResponse (v : Code) : List Byte := [slice v 8 8, slice v 0 8]

/-- Reads one command from a byte stream and gives the bytes after it. -/
def decodeBytes : List Byte → Except DecodeError (Instr × List Byte)
  | b0 :: b1 :: b2 :: b3 :: b4 :: rest => .ok (decodeWord (wordOfBytes b0 b1 b2 b3 b4), rest)
  | short => .error (.truncated short.length)

/-- The word whose low `nbits` bits are those of `w` and whose other bits are zero. -/
def tableWord (nbits w : Nat) : CmdWord := BitVec.ofNat 40 (w % 2 ^ nbits)

/-- The command the decoder reads from an opcode-table word: the word is `CMD`, numbered as the table numbers it,
serialised and given to the byte decoder. -/
def decodeTableWord (nbits w : Nat) : Option Instr :=
  match decodeBytes (bytesOfWord (tableWord nbits w)) with
  | .ok (i, _) => some i
  | .error _ => none

/-- The word that carries a command's operands (R83): its format's fields, from bit 39 down, every reserved field and the
`code` field of RD_CAL zero. `data` stands in it whole, as in the example of 45_events R179. `encodeCanonical` is the
word an assembler writes. -/
def encode : Instr → CmdWord
  | .nop => (0x0#4 ++ 0#36 : BitVec 40)
  | .init rc => (0x1#4 ++ 0#35 ++ BitVec.ofBool rc : BitVec 40)
  | .calWrite idx code => (0x2#4 ++ 0#16 ++ idx ++ code : BitVec 40)
  | .noteOn note velocity amount trigger =>
      (0x3#4 ++ 0#5 ++ BitVec.ofBool trigger ++ amount ++ velocity ++ note : BitVec 40)
  | .noteOff => (0x4#4 ++ 0#36 : BitVec 40)
  | .controlChange controller value => (0x5#4 ++ 0#21 ++ controller ++ 0#1 ++ value : BitVec 40)
  | .pitchBend bend => (0x6#4 ++ 0#22 ++ bend : BitVec 40)
  | .cfgWrite reg data => (0x7#4 ++ reg ++ data : BitVec 40)
  | .refresh => (0x8#4 ++ 0#36 : BitVec 40)
  | .rdNote => (0x9#4 ++ 0#36 : BitVec 40)
  | .rdTrig => (0xA#4 ++ 0#36 : BitVec 40)
  | .rdAux ch => (0xB#4 ++ 0#33 ++ ch : BitVec 40)
  | .rdStatus => (0xC#4 ++ 0#36 : BitVec 40)
  | .rdCal idx => (0xD#4 ++ 0#16 ++ idx ++ 0#16 : BitVec 40)
  | .reservedE => (0xE#4 ++ 0#36 : BitVec 40)
  | .reservedF => (0xF#4 ++ 0#36 : BitVec 40)

/-- The five bytes of that word. -/
def encodeBytes (i : Instr) : List Byte := bytesOfWord (encode i)

/-- How many low bits of `data` a configuration register keeps (10_state R28 to R43); 0 where there is no register
(log 11). -/
def keptBits (reg : BitVec 4) : Nat :=
  match reg.toNat with
  | 0 => 7
  | 1 => 8
  | 2 => 8
  | 3 => 16
  | 4 => 32
  | 5 => 7
  | 6 => 3
  | 7 => 1
  | _ => 0

/-- `data` with the bits above the register's field, which CFG_WRITE ignores, zero (R87). -/
def keptData (reg : BitVec 4) (data : BitVec 32) : BitVec 32 := BitVec.ofNat 32 (data.toNat % 2 ^ keptBits reg)

/-- The command with the ignored bits of its operands zero. Only the `data` of CFG_WRITE has such bits (R87): every other
operand is exactly as wide as its field (R84). -/
def Instr.canonical : Instr → Instr
  | .nop => .nop
  | .init rc => .init rc
  | .calWrite idx code => .calWrite idx code
  | .noteOn note velocity amount trigger => .noteOn note velocity amount trigger
  | .noteOff => .noteOff
  | .controlChange controller value => .controlChange controller value
  | .pitchBend bend => .pitchBend bend
  | .cfgWrite reg data => .cfgWrite reg (keptData reg data)
  | .refresh => .refresh
  | .rdNote => .rdNote
  | .rdTrig => .rdTrig
  | .rdAux ch => .rdAux ch
  | .rdStatus => .rdStatus
  | .rdCal idx => .rdCal idx
  | .reservedE => .reservedE
  | .reservedF => .reservedF

/-- The canonical encoding of a command, with all reserved and ignored bits zero (R87). -/
def encodeCanonical (i : Instr) : CmdWord := encode i.canonical

/-- The bits of the word that a command's format gives to its opcode or to an operand (R83); the others are reserved,
or the `code` field of RD_CAL (R87). The high bits of `data` that a register ignores are in the operand's field; `keptData`
clears them. -/
def meaningfulBits : Instr → CmdWord
  | .nop => 0xF000000000
  | .init _ => 0xF000000001
  | .calWrite _ _ => 0xF0000FFFFF
  | .noteOn _ _ _ _ => 0xF07FFFFFFF
  | .noteOff => 0xF000000000
  | .controlChange _ _ => 0xF000007F7F
  | .pitchBend _ => 0xF000003FFF
  | .cfgWrite _ _ => 0xFFFFFFFFFF
  | .refresh => 0xF000000000
  | .rdNote => 0xF000000000
  | .rdTrig => 0xF000000000
  | .rdAux _ => 0xF000000007
  | .rdStatus => 0xF000000000
  | .rdCal _ => 0xF0000F0000
  | .reservedE => 0xF000000000
  | .reservedF => 0xF000000000

end Sys2Proof
end

