-- ==== Sys2Proof/Config.lean ====
section
/-! DEFINITION. The parameters of 00_scope R5 and the contents of the four ROMs, which the spec leaves open. -/

namespace Sys2Proof.Config

/-! The parameters that R5 gives a value. -/

/-- `K_OCTAVE` (R5): pitch units per octave. -/
abbrev kOctave : Nat := 1536

/-- `K_MAX_NOTE` (R5): exclusive upper bound of the quantizer's range. -/
abbrev kMaxNote : Nat := 15360

/-- `BEND_CENTER` (R5). -/
abbrev bendCenter : Nat := 8192

/-- `PORT_MAX` (R5): largest portamento amount. -/
abbrev portMax : Nat := 100

/-- `PORT_SPLIT` (R5): amounts up to this one are shape A, above it shape B. -/
abbrev portSplit : Nat := 50

/-- `K_LFO` (R5): depth of `ROM_LFO_INC` and threshold of the rate. -/
abbrev kLfo : Nat := 100

/-- `K_TRIG` (R5): number of decay-curve tables. -/
abbrev kTrig : Nat := 4

/-- `RETRIG_TICKS` (R5): the value loaded into `retrigger_delay`. -/
abbrev retrigTicks : BitVec 2 := 2

/-- `CAL_ZERO_IDX` (R5): the zero-volt entry of the trigger output. -/
abbrev calZeroIdx : Nat := 3

/-- `CAL_MAX_IDX` (R5): the full-scale entry of the trigger output. -/
abbrev calMaxIdx : Nat := 8

/-- `CC_MOD_WHEEL` (R5). -/
abbrev ccModWheel : BitVec 7 := 1

/-- `CC_BREATH` (R5). -/
abbrev ccBreath : BitVec 7 := 2

/-- `CC_FOOT` (R5). -/
abbrev ccFoot : BitVec 7 := 4

/-! The contents of the ROMs: OPEN in the spec (10_state R45, 92 D10), so constants with no body.
Nothing can evaluate one or prove a value of it (log 1). -/

/-- Contents of `ROM_PORT_INC[0..127]`, `u32` (10_state R46). DESIGN CHOICE, safe (log 1). -/
opaque romPortInc : Vector (BitVec 32) 128

/-- Contents of `ROM_LFO_INC[0..99]`, `u32` (10_state R47). DESIGN CHOICE, safe (log 1). -/
opaque romLfoInc : Vector (BitVec 32) 100

/-- Contents of `ROM_ENV_EXPO[0..256]`, `u16` (10_state R48). DESIGN CHOICE, safe (log 1). -/
opaque romEnvExpo : Vector (BitVec 16) 257

/-- Contents of `ROM_TRIG_WAVE[0..3][0..256]`, `s16` (10_state R49). DESIGN CHOICE, safe (log 1). -/
opaque romTrigWave : Vector (Vector (BitVec 16) 257) 4

end Sys2Proof.Config
end

