-- ==== Sys2Proof/Machine/State.lean ====
section
/-! DEFINITION. The state of one Voice (10_state R57, R58), what its host still has to present to it, and the reasons
a step can stop. -/

namespace Sys2Proof.Machine

/-- Contents of the four ROMs (10_state R45 to R49): read-only tables, a parameter of the model fixed before a run.
No step writes them (log 1). `trigWave` entries are `s16`, the others unsigned. -/
structure Rom where
  portInc : Vector Phase 128
  lfoInc : Vector Phase 100
  envExpo : Vector (BitVec 16) 257
  trigWave : Vector (Vector (BitVec 16) 257) 4
deriving DecidableEq, Repr

/-- What the host does on the block's input ports (30_encoding R80), one event after the other (R81, 70_reset R220). -/
inductive PortEvent where
  /-- `cmd_valid` with this word on `cmd`, until it is accepted. -/
  | command (w : CmdWord)
  /-- `rst_n` taken low and high again (DEDUCED, log 5). -/
  | resetPulse
deriving DecidableEq, Repr

/-- The state of a Voice. The fields down to `noteDacCode` are the elements of 10_state R57, each of the width the
named rule gives it; a `1 bit` or `u1` element is a `Bool`, a signed one is its bit pattern, read with `BitVec.toInt`
(log 13). The last three fields are the model's own. -/
structure State where
  /-- `current_note`, `s32` (R23). -/
  currentNote : BitVec 32
  /-- `note_source`, `s16` (R22). -/
  noteSource : Pitch
  /-- `note_target`, `s16` (R22). -/
  noteTarget : Pitch
  /-- `note_portamento`, `s16` (R22). -/
  notePortamento : Pitch
  /-- `gate`, 1 bit (R24). -/
  gate : Bool
  /-- `portamento_phase`, `u32` (R25). -/
  portamentoPhase : Phase
  /-- `portamento_phase_increment`, `u32` (R25). -/
  portamentoPhaseIncrement : Phase
  /-- `portamento_exponential_shape`, 1 bit, set for shape A (R26). -/
  portamentoExponentialShape : Bool
  /-- `lfo_phase`, `u32` (R27). -/
  lfoPhase : Phase
  /-- `lfo_pll_phase_increment`, `CFG[4]`, `u32` (R28). -/
  lfoPllPhaseIncrement : Phase
  /-- `modulation_rate`, `CFG[0]`, `u7` (R30). -/
  modulationRate : BitVec 7
  /-- `pitch_bend_range`, `CFG[1]`, `u8` (R31). -/
  pitchBendRange : BitVec 8
  /-- `vibrato_range`, `CFG[2]`, `u8` (R32). -/
  vibratoRange : BitVec 8
  /-- `tuning`, `CFG[3]`, `s16` (R33). -/
  tuning : Pitch
  /-- `trigger_duration`, `CFG[5]`, `u7` (R40). -/
  triggerDuration : BitVec 7
  /-- `trigger_shape`, `CFG[6]`, `u3` (R42). -/
  triggerShape : BitVec 3
  /-- `trigger_scale`, `CFG[7]`, `u1` (R43). -/
  triggerScale : Bool
  /-- `mod_velocity`, `u7` (R34). -/
  modVelocity : BitVec 7
  /-- `mod_wheel`, `u7` (R35). -/
  modWheel : BitVec 7
  /-- `mod_pitch_bend`, `u14` (R36). -/
  modPitchBend : BitVec 14
  /-- `AUX[0..7]`, `u16` each (R37). -/
  aux : Vector Code 8
  /-- `retrigger_delay`, `u2` (R38). -/
  retriggerDelay : BitVec 2
  /-- `trigger_pulse`, `u10` (R39). -/
  triggerPulse : BitVec 10
  /-- `trigger_phase`, `u32` (R41). -/
  triggerPhase : Phase
  /-- `trigger_phase_increment`, `u32` (R41). -/
  triggerPhaseIncrement : Phase
  /-- `CAL[0..10]`, `u16` each (R44). -/
  cal : Vector Code 11
  /-- `dirty`, 1 bit (R52). -/
  dirty : Bool
  /-- `note_dac_code`, `u16` (R51). -/
  noteDacCode : Code
  /-- The model's own: the ROM contents the machine is built with (R45, log 1). -/
  rom : Rom
  /-- The model's own: what the host still has to present, first event first (R81, log 2). -/
  hostStream : List PortEvent
  /-- The model's own: the response of the latest step, if it gave one (R82, log 3). -/
  rsp : Option Code
deriving DecidableEq, Repr

/-- Reasons a step faults: none. No command, operand or state faults (60_exceptions R200), so the type has no
constructor. DEDUCED, safe: the spec says that a model's step function is total and has no fault outcome (log 9). -/
inductive Fault where
deriving DecidableEq, Repr

/-- Reasons a step is refused. -/
inductive Refusal where
  /-- The instruction has no meaning yet. Raised by an arm of `exec` without a meaning, and there is none: no step of
  this model is refused. Safe (log 9). -/
  | notModelled (mnemonic : String)
deriving DecidableEq, Repr

/-- The ROM contents that a machine is built with: the opaque constants of `Config` (log 1). -/
def Rom.installed : Rom where
  portInc := Config.romPortInc
  lfoInc := Config.romLfoInc
  envExpo := Config.romEnvExpo
  trigWave := Config.romTrigWave

/-- The state hardware reset leaves (70_reset R220): every element at its value in 10_state R57, the calibration table
at `DEFAULT_CAL`. Of the model's own fields, the ROMs hold what they were built with, nothing is waiting on the ports
and no response is present (logs 1, 2, 3). -/
def State.reset : State where
  currentNote := 7680
  noteSource := 7680
  noteTarget := 7680
  notePortamento := 7680
  gate := false
  portamentoPhase := 0
  portamentoPhaseIncrement := 0
  portamentoExponentialShape := false
  lfoPhase := 0
  lfoPllPhaseIncrement := 0
  modulationRate := 0
  pitchBendRange := 2
  vibratoRange := 0
  tuning := 0
  triggerDuration := 2
  triggerShape := 0
  triggerScale := false
  modVelocity := 0
  modWheel := 0
  modPitchBend := 8192
  aux := #v[0, 0, 0, 0, 0, 0, 0, 0]
  retriggerDelay := 0
  triggerPulse := 0
  triggerPhase := 0
  triggerPhaseIncrement := 0
  cal := #v[54586, 49453, 44320, 39187, 34054, 28921, 23788, 18655, 13522, 8389, 3256]
  dirty := false
  noteDacCode := 28921
  rom := Rom.installed
  hostStream := []
  rsp := none

end Sys2Proof.Machine
end

