-- ==== Sys2Proof/Machine/Ops.lean ====
section
/-! DEFINITION. The operations the commands share: the arithmetic of 00_scope R7 to R12, table reads (20_memory R61),
the interpolating table lookup (41_glide R112), the wrapping ramp (41_glide R115, 44_trigger R158) and the response
(30_encoding R82). There is no exception to take and none to return from (60_exceptions R203, R204). -/

namespace Sys2Proof.Machine

/-- `v >> k` of 00_scope R9: `floor(v / 2^k)`, for negative `v` too. -/
def asr (v : Int) (k : Nat) : Int := v / 2 ^ k

/-- `clamp(v, lo, hi)` of 00_scope R12. -/
def clamp (v lo hi : Int) : Int := min (max v lo) hi

/-- `tdiv(a, b)` of 00_scope R10: the quotient truncated toward zero. -/
def tdiv (a b : Int) : Int := a.tdiv b

/-- The entry of a table at a bounded index: "all table indices are bounds-clamped" (20_memory R61). -/
def bounded {α : Type} {n : Nat} (table : Vector α (n + 1)) (i : Nat) : α := table[min i n]

/-- `Interp824(T, phase)` (41_glide R112): `entry` reads `T` as integers of its element type. -/
def interp824 (entry : Nat → Int) (phase : Phase) : Int :=
  let i := (slice phase 24 8).toNat
  let f : Int := (slice phase 8 16).toNat
  let a := entry i
  let b := entry (i + 1)
  a + asr ((b - a) * f) 16

/-- The wrapping add passed zero: the post-increment phase is below the increment just added (R115, R158). -/
def rampCompletes (phase inc : Phase) : Bool := decide (phase + inc < inc)

/-- The phase of a ramp after one tick (R115, R158). -/
def rampPhase (phase inc : Phase) : Phase := if rampCompletes phase inc then 0 else phase + inc

/-- The increment of a ramp after one tick (R115, R158). -/
def rampIncrement (phase inc : Phase) : Phase := if rampCompletes phase inc then 0 else inc

/-- The command ends and gives no response (30_encoding R82). -/
def silent (s : State) : Host.Outcome State Fault Refusal := .next { s with rsp := none }

/-- `respond(v)` of 00_scope R13: the command ends with the response `v` (30_encoding R82). -/
def respond (v : Code) (s : State) : Host.Outcome State Fault Refusal := .next { s with rsp := some v }

end Sys2Proof.Machine
end

