-- ==== Sys2Proof/Machine/Operands.lean ====
section
/-! DEFINITION. How operands are read once the word is decoded: the field of `data` a configuration register keeps
(10_state R28 to R43), the portamento amount (41_glide R113), the calibration index (40_quantizer R103). -/

namespace Sys2Proof.Machine

/-- `data[6:0]`, kept by `CFG[0]` and `CFG[5]` (R30, R40). -/
def data7 (data : BitVec 32) : BitVec 7 := slice data 0 7

/-- `data[7:0]`, kept by `CFG[1]` and `CFG[2]` (R31, R32). -/
def data8 (data : BitVec 32) : BitVec 8 := slice data 0 8

/-- `data[15:0]`, kept by `CFG[3]` as two's complement (R33). -/
def data16 (data : BitVec 32) : BitVec 16 := slice data 0 16

/-- `data[2:0]`, kept by `CFG[6]` (R42). -/
def data3 (data : BitVec 32) : BitVec 3 := slice data 0 3

/-- `data[0]`, kept by `CFG[7]` (R43). -/
def data1 (data : BitVec 32) : Bool := data.getLsbD 0

/-- The amount after `min(amount, PORT_MAX)` (41_glide R113). -/
def clampedAmount (amount : BitVec 7) : Nat := min amount.toNat Config.portMax

/-- `idx` names an entry of `CAL` (20_memory R61 a). -/
def calIndexExists (idx : BitVec 4) : Bool := decide (idx.toNat ≤ 10)

/-- A 7-bit controller value as a 16-bit code: `value << 9` (43_lfo R145, 45_events R177). -/
def code7 (value : BitVec 7) : Code := BitVec.ofNat 16 (value.toNat <<< 9)

end Sys2Proof.Machine
end

