-- ==== Sys2Proof/Machine/Quantizer.lean ====
section
/-! DEFINITION. The pitch quantizer and the calibration table (40_quantizer): `Quantize`, CAL_WRITE, RD_CAL, RD_NOTE. -/

namespace Sys2Proof.Machine

/-- `Quantize(note)` (R100): the code for a composed pitch on a calibration table. -/
def quantize (cal : Vector Code 11) (note : Int) : Code :=
  let n := (clamp note 0 (Config.kMaxNote - 1)).toNat
  let octave := n / Config.kOctave
  let r : Int := n - octave * Config.kOctave
  let a : Int := (bounded cal octave).toNat
  let b : Int := (bounded cal (octave + 1)).toNat
  BitVec.ofInt 16 (a + tdiv ((b - a) * r) Config.kOctave)

/-- The document's loop that finds the octave (R101), with at most `fuel` subtractions left: the octaves counted and
what remains of `n`. `quantize` divides instead, which R101 allows. -/
def octaveLoop (fuel octave n : Nat) : Nat × Nat :=
  match fuel with
  | 0 => (octave, n)
  | fuel + 1 => if Config.kOctave ≤ n then octaveLoop fuel (octave + 1) (n - Config.kOctave) else (octave, n)

/-- CAL_WRITE (R103). -/
def execCalWrite (idx : BitVec 4) (code : Code) (s : State) : Host.Outcome State Fault Refusal :=
  silent (if calIndexExists idx then { s with cal := s.cal.setIfInBounds idx.toNat code, dirty := true } else s)

/-- RD_CAL (R104). -/
def execRdCal (idx : BitVec 4) (s : State) : Host.Outcome State Fault Refusal :=
  respond (bounded s.cal idx.toNat) s

/-- RD_NOTE (R106). -/
def execRdNote (s : State) : Host.Outcome State Fault Refusal := respond s.noteDacCode s

end Sys2Proof.Machine
end

