-- ==== Sys2Proof/Machine/Flags.lean ====
section
/-! DEFINITION. The one-bit outputs and the status word. The block has no condition codes (10_state R54): its one-bit
elements are written only by the commands that name them. -/

namespace Sys2Proof.Machine

/-- `GATE_OUT` (10_state R50, 44_trigger R166). -/
def gateOut (s : State) : Bool := s.gate && decide (s.retriggerDelay = 0)

/-- `TRIG_OUT` (10_state R50, 44_trigger R166): it does not depend on `gate` (90_conflicts C14). -/
def trigOut (s : State) : Bool := decide (s.triggerPulse ≠ 0)

/-- The status word `{0[12:0], gate, TRIG_OUT, GATE_OUT}` (44_trigger R165). -/
def statusWord (s : State) : Code :=
  (0#13 ++ BitVec.ofBool s.gate ++ BitVec.ofBool (trigOut s) ++ BitVec.ofBool (gateOut s) : BitVec 16)

end Sys2Proof.Machine
end

