-- ==== Sys2Proof/Machine/Glide.lean ====
section
/-! DEFINITION. The glide interpolator (41_glide): `GlideArm`, part of NOTE_ON, and `GlideStep`, part of REFRESH. -/

namespace Sys2Proof.Machine

/-- `ROM_PORT_INC[i]` (10_state R46). -/
def portIncAt (s : State) (i : Nat) : Phase := bounded s.rom.portInc i

/-- `ROM_ENV_EXPO[i]` (10_state R48), read as an unsigned integer. -/
def envExpoAt (s : State) (i : Nat) : Int := (bounded s.rom.envExpo i).toNat

/-- `ShapeBIncrement` (R114) for the base increment and the distance plus one. -/
def shapeBIncrement (base : Phase) (delta : Nat) : Phase :=
  let q := (Config.kOctave * (base.toNat >>> 11)) / delta
  BitVec.ofInt 32 (clamp ((q <<< 11 : Nat) : Int) 1 (2 ^ 31 - 1))

/-- `abs(target - source) + 1` (R114). -/
def glideDelta (source target : Pitch) : Nat := (target.toInt - source.toInt).natAbs + 1

/-- The pitch a new glide starts from (R113): the live interpolated pitch, or the note itself with amount zero. -/
def armedSource (note : Pitch) (amount : BitVec 7) (s : State) : Pitch :=
  if clampedAmount amount = 0 then note else s.notePortamento

/-- The increment a new glide gets (R113, R114). -/
def armedIncrement (note : Pitch) (amount : BitVec 7) (s : State) : Phase :=
  let a := clampedAmount amount
  if a ≤ Config.portSplit then portIncAt s (2 * a)
  else shapeBIncrement (portIncAt s (2 * (a - (Config.portSplit + 1)))) (glideDelta (armedSource note amount s) note)

/-- `GlideArm(note, amount)` (R113). -/
def glideArm (note : Pitch) (amount : BitVec 7) (s : State) : State :=
  { s with
    noteSource := armedSource note amount s
    noteTarget := note
    portamentoPhaseIncrement := armedIncrement note amount s
    portamentoExponentialShape := decide (clampedAmount amount ≤ Config.portSplit)
    portamentoPhase := 0 }

/-- `GlideStep`, first half (R115): advance the phase, detect completion. -/
def glideAdvance (s : State) : State :=
  { s with
    portamentoPhase := rampPhase s.portamentoPhase s.portamentoPhaseIncrement
    portamentoPhaseIncrement := rampIncrement s.portamentoPhase s.portamentoPhaseIncrement
    noteSource := if rampCompletes s.portamentoPhase s.portamentoPhaseIncrement then s.noteTarget else s.noteSource }

/-- The level of `GlideStep`, second half (R116). -/
def glideLevel (s : State) : Int :=
  if s.portamentoExponentialShape then interp824 (envExpoAt s) s.portamentoPhase
  else (slice s.portamentoPhase 16 16).toNat

/-- The interpolated pitch of `GlideStep`, second half (R116), before it is stored. -/
def glidePitch (s : State) : Int :=
  s.noteSource.toInt + asr ((s.noteTarget.toInt - s.noteSource.toInt) * glideLevel s) 16

/-- `GlideStep` (R115, R116). -/
def glideStep (s : State) : State :=
  let t := glideAdvance s
  { t with notePortamento := BitVec.ofInt 16 (glidePitch t) }

end Sys2Proof.Machine
end

