-- ==== Sys2Proof/Machine/Trigger.lean ====
section
/-! DEFINITION. The trigger and envelope generator (44_trigger): `TrigArm`, part of NOTE_ON, `CountdownStep` and
`TrigStep`, parts of REFRESH, `TrigCode`, RD_TRIG, RD_STATUS. -/

namespace Sys2Proof.Machine

/-- `TrigArm` (R155): it reads `gate` as it was before the NOTE_ON. -/
def trigArm (s : State) : State :=
  { s with
    retriggerDelay := if s.gate then Config.retrigTicks else s.retriggerDelay
    triggerPulse := BitVec.ofNat 10 (s.triggerDuration.toNat * 8)
    triggerPhase := 0
    triggerPhaseIncrement := portIncAt s s.triggerDuration.toNat }

/-- One tick of a countdown, floored at zero (R157). -/
def countDown {w : Nat} (c : BitVec w) : BitVec w := if c = 0 then c else c - 1

/-- `CountdownStep` (R157). -/
def countdownStep (s : State) : State :=
  { s with retriggerDelay := countDown s.retriggerDelay, triggerPulse := countDown s.triggerPulse }

/-- `TrigStep` (R158). -/
def trigStep (s : State) : State :=
  { s with
    triggerPhase := rampPhase s.triggerPhase s.triggerPhaseIncrement
    triggerPhaseIncrement := rampIncrement s.triggerPhase s.triggerPhaseIncrement }

/-- `ROM_TRIG_WAVE[k][i]` (10_state R49), read as a signed integer. -/
def trigWaveAt (s : State) (k i : Nat) : Int := (bounded (bounded s.rom.trigWave k) i).toInt

/-- `ShapeValue()` (R161). -/
def shapeValue (s : State) : Int :=
  if s.triggerShape = 0 then 32767
  else if s.triggerShape = 1 then 32767 - ((slice s.triggerPhase 17 15).toNat : Int)
  else interp824 (trigWaveAt s (min (s.triggerShape.toNat - 2) (Config.kTrig - 1))) s.triggerPhase

/-- The envelope value after the optional velocity scaling (R160). -/
def scaledShape (s : State) : Int :=
  asr (shapeValue s * (if s.triggerScale then ((s.modVelocity.toNat <<< 8 : Nat) : Int) else 32768)) 15

/-- `TrigCode()` (R160): computed on read, never cached (90_conflicts C3). -/
def trigCode (s : State) : Code :=
  let zero := bounded s.cal Config.calZeroIdx
  let top := bounded s.cal Config.calMaxIdx
  if s.triggerPhase ≤ s.triggerPhaseIncrement then zero
  else BitVec.ofInt 16 ((zero.toNat : Int) + asr (((top.toNat : Int) - (zero.toNat : Int)) * scaledShape s) 15)

/-- RD_TRIG (R164). -/
def execRdTrig (s : State) : Host.Outcome State Fault Refusal := respond (trigCode s) s

/-- RD_STATUS (R165). -/
def execRdStatus (s : State) : Host.Outcome State Fault Refusal := respond (statusWord s) s

end Sys2Proof.Machine
end

