-- ==== Sys2Proof/Machine/Events.lean ====
section
/-! DEFINITION. The event, configuration and system commands (45_events) and the reserved opcodes (30_encoding R86). -/

namespace Sys2Proof.Machine

/-- What NOTE_ON leaves (R175): `TrigArm` sees `gate` as it was before. -/
def noteOnState (note : Pitch) (velocity amount : BitVec 7) (trigger : Bool) (s : State) : State :=
  let s1 := glideArm note amount s
  let s2 := { s1 with modVelocity := velocity }
  let s3 := if trigger then trigArm s2 else s2
  { s3 with gate := true }

/-- NOTE_ON (R175). -/
def execNoteOn (note : Pitch) (velocity amount : BitVec 7) (trigger : Bool) (s : State) :
    Host.Outcome State Fault Refusal :=
  silent (noteOnState note velocity amount trigger s)

/-- NOTE_OFF (R176). -/
def execNoteOff (s : State) : Host.Outcome State Fault Refusal := silent { s with gate := false }

/-- What CONTROL_CHANGE writes (R177). -/
def controlState (controller value : BitVec 7) (s : State) : State :=
  if controller = Config.ccModWheel then { s with modWheel := value }
  else if controller = Config.ccBreath then { s with aux := s.aux.set 2 (code7 value) }
  else if controller = Config.ccFoot then { s with aux := s.aux.set 3 (code7 value) }
  else s

/-- CONTROL_CHANGE (R177). -/
def execControlChange (controller value : BitVec 7) (s : State) : Host.Outcome State Fault Refusal :=
  silent (controlState controller value s)

/-- PITCH_BEND (R178). -/
def execPitchBend (bend : BitVec 14) (s : State) : Host.Outcome State Fault Refusal :=
  silent { s with modPitchBend := bend }

/-- What CFG_WRITE writes (R179): registers 8 to 15 do not exist. -/
def cfgState (reg : BitVec 4) (data : BitVec 32) (s : State) : State :=
  match reg.toNat with
  | 0 => { s with modulationRate := data7 data }
  | 1 => { s with pitchBendRange := data8 data }
  | 2 => { s with vibratoRange := data8 data }
  | 3 => { s with tuning := data16 data }
  | 4 => { s with lfoPllPhaseIncrement := data }
  | 5 => { s with triggerDuration := data7 data }
  | 6 => { s with triggerShape := data3 data }
  | 7 => { s with triggerScale := data1 data }
  | _ => s

/-- CFG_WRITE (R179). -/
def execCfgWrite (reg : BitVec 4) (data : BitVec 32) (s : State) : Host.Outcome State Fault Refusal :=
  silent (cfgState reg data s)

/-- NOP (R180). -/
def execNop (s : State) : Host.Outcome State Fault Refusal := silent s

/-- `DEFAULT_CAL[i] = 54586 - 5133 * i` (00_scope R5, 45_events R181). -/
def defaultCal : Vector Code 11 := Vector.ofFn fun i => BitVec.ofNat 16 (54586 - 5133 * i.val)

/-- What INIT leaves (R181, the table of 10_state R57): every element at its reset value, the calibration table only
with `rc`, the pitch code computed on the table as it then stands. -/
def initState (rc : Bool) (s : State) : State :=
  let cal := if rc then defaultCal else s.cal
  { currentNote := 7680
    noteSource := 7680
    noteTarget := 7680
    notePortamento := 7680
    gate := false
    portamentoPhase := 0
    portamentoPhaseIncrement := 0
    portamentoExponentialShape := false
    lfoPhase := 0
    lfoPllPhaseIncrement := 0
    modulationRate := 0
    pitchBendRange := 2
    vibratoRange := 0
    tuning := 0
    triggerDuration := 2
    triggerShape := 0
    triggerScale := false
    modVelocity := 0
    modWheel := 0
    modPitchBend := 8192
    aux := Vector.replicate 8 0
    retriggerDelay := 0
    triggerPulse := 0
    triggerPhase := 0
    triggerPhaseIncrement := 0
    cal := cal
    dirty := false
    noteDacCode := quantize cal 7680
    rom := s.rom
    hostStream := s.hostStream
    rsp := s.rsp }

/-- INIT (R181). -/
def execInit (rc : Bool) (s : State) : Host.Outcome State Fault Refusal := silent (initState rc s)

/-- The reserved opcode `0xE` (30_encoding R86): it behaves as NOP. -/
def execReservedE (s : State) : Host.Outcome State Fault Refusal := silent s

/-- The reserved opcode `0xF` (30_encoding R86): it behaves as NOP. -/
def execReservedF (s : State) : Host.Outcome State Fault Refusal := silent s

/-- What a pulse of `rst_n` leaves (70_reset R220): the state INIT 1 produces, `rsp_valid = 0` (log 5). -/
def hardwareReset (s : State) : State := { initState true s with rsp := none }

end Sys2Proof.Machine
end

