-- ==== Sys2Proof/Machine/Lfo.lean ====
section
/-! DEFINITION. The vibrato LFO and the auxiliary channels (43_lfo): `LfoStep`, `LfoWave`, `VibratoTerm`, `AuxUpdate`,
RD_AUX. -/

namespace Sys2Proof.Machine

/-- The increment of this tick (R140): the rate ROM below `K_LFO`, else the synchronized increment. -/
def lfoIncrement (s : State) : Phase :=
  if s.modulationRate.toNat < Config.kLfo then bounded s.rom.lfoInc s.modulationRate.toNat
  else s.lfoPllPhaseIncrement

/-- `LfoStep` (R140). -/
def lfoStep (s : State) : State := { s with lfoPhase := s.lfoPhase + lfoIncrement s }

/-- `LfoWave(phase)` (R142): the triangle (90_conflicts C1). -/
def lfoWave (phase : Phase) : Int :=
  if phase.toNat < 2 ^ 31 then -32768 + ((slice phase 15 17).toNat : Int)
  else 98303 - ((slice phase 15 17).toNat : Int)

/-- `VibratoTerm(lfo)` (R143). -/
def vibratoTerm (lfo : Int) (s : State) : Int :=
  asr (lfo * (s.modWheel.toNat : Int) * (s.vibratoRange.toNat : Int)) 15

/-- `AuxUpdate(lfo)` (R145). -/
def auxUpdate (lfo : Int) (s : State) : State :=
  let a0 := s.aux.set 0 (code7 s.modVelocity)
  let a1 := a0.set 1 (code7 s.modWheel)
  let a4 := a1.set 4 (BitVec.ofNat 16 (s.modPitchBend.toNat <<< 2))
  let a5 := a4.set 5 (BitVec.ofInt 16 (asr (lfo * (s.modWheel.toNat : Int)) 7 + 32768))
  { s with aux := a5.set 6 (BitVec.ofInt 16 (lfo + 32768)) }

/-- RD_AUX (R146). -/
def execRdAux (ch : BitVec 3) (s : State) : Host.Outcome State Fault Refusal :=
  respond (bounded s.aux ch.toNat) s

end Sys2Proof.Machine
end

