-- ==== Sys2Proof/Machine/Pipeline.lean ====
section
/-! DEFINITION. The tick and the pitch composition (42_pitch_pipeline): REFRESH. -/

namespace Sys2Proof.Machine

/-- `BendTerm()` (R126). -/
def bendTerm (s : State) : Int :=
  asr (((s.modPitchBend.toNat : Int) - Config.bendCenter) * (s.pitchBendRange.toNat : Int)) 6

/-- The test of `Publish` (R128): the composed pitch changed, or a calibration change is pending. -/
def mustPublish (note : Int) (s : State) : Bool := decide (note ≠ s.currentNote.toInt) || s.dirty

/-- `Publish(note)` (R128). -/
def publish (note : Int) (s : State) : State :=
  { s with
    noteDacCode := if mustPublish note s then quantize s.cal note else s.noteDacCode
    currentNote := if mustPublish note s then BitVec.ofInt 32 note else s.currentNote
    dirty := if mustPublish note s then false else s.dirty }

/-- The nine steps of REFRESH (R125), in their order. -/
def refreshState (s : State) : State :=
  let s1 := glideStep s
  let note2 := s1.notePortamento.toInt + bendTerm s1 + s1.tuning.toInt
  let s3 := lfoStep s1
  let lfo := lfoWave s3.lfoPhase
  let note5 := note2 + vibratoTerm lfo s3
  let s6 := auxUpdate lfo s3
  let s7 := countdownStep s6
  let s8 := trigStep s7
  publish note5 s8

/-- REFRESH (R125). -/
def execRefresh (s : State) : Host.Outcome State Fault Refusal := silent (refreshState s)

end Sys2Proof.Machine
end

