-- ==== Sys2Proof/Machine/Dispatch.lean ====
section
/-! DEFINITION. Which meaning each command has. -/

namespace Sys2Proof.Machine

/-- The meaning of a command (30_encoding R85). -/
def exec (i : Instr) (s : State) : Host.Outcome State Fault Refusal :=
  match i with
  | .nop => Sys2Proof.Machine.execNop s
  | .init rc => Sys2Proof.Machine.execInit rc s
  | .calWrite idx code => Sys2Proof.Machine.execCalWrite idx code s
  | .noteOn note velocity amount trigger => Sys2Proof.Machine.execNoteOn note velocity amount trigger s
  | .noteOff => Sys2Proof.Machine.execNoteOff s
  | .controlChange controller value => Sys2Proof.Machine.execControlChange controller value s
  | .pitchBend bend => Sys2Proof.Machine.execPitchBend bend s
  | .cfgWrite reg data => Sys2Proof.Machine.execCfgWrite reg data s
  | .refresh => Sys2Proof.Machine.execRefresh s
  | .rdNote => Sys2Proof.Machine.execRdNote s
  | .rdTrig => Sys2Proof.Machine.execRdTrig s
  | .rdAux ch => Sys2Proof.Machine.execRdAux ch s
  | .rdStatus => Sys2Proof.Machine.execRdStatus s
  | .rdCal idx => Sys2Proof.Machine.execRdCal idx s
  | .reservedE => Sys2Proof.Machine.execReservedE s
  | .reservedF => Sys2Proof.Machine.execReservedF s

end Sys2Proof.Machine
end

