-- ==== Sys2Proof/Machine/Step.lean ====
section
/-! DEFINITION. One step: the next event of the ports takes its effect (30_encoding R81, 70_reset R220). -/

namespace Sys2Proof.Machine

/-- One step. The next command word is accepted, decoded and executed (R81); a reset pulse resets the block (R220,
log 5); with nothing presented the block waits and keeps its state (60_exceptions R211), and no response is
present (log 4). -/
def step (s : State) : Host.Outcome State Fault Refusal :=
  match s.hostStream with
  | [] => silent s
  | .resetPulse :: rest => .next (hardwareReset { s with hostStream := rest })
  | .command w :: rest => exec (decodeWord w) { s with hostStream := rest }

/-- The state with one more command presented, before all that the host was about to present: the low `nbits` bits of
the command word are those of `w`, the others zero. This is how a program reaches the block (log 2). -/
def State.withFetchWord (s : State) (nbits w : Nat) : State :=
  { s with hostStream := .command (tableWord nbits w) :: s.hostStream }

end Sys2Proof.Machine
end

