-- ==== Sys2Proof/Machine/Assembler.lean ====
section
/-! DEFINITION. The assembler notation and the pseudo-commands (30_encoding R88, R89). Text is a list of characters. -/

namespace Sys2Proof.Machine

/-- The pseudo-commands of R89. -/
inductive Pseudo where
  | calibrate (codes : Vector Code 11)
  | ticks (n : Nat)
  | modWheel (v : BitVec 7)
  | breath (v : BitVec 7)
  | foot (v : BitVec 7)
  | setModRate (v : BitVec 32)
  | setBendRange (v : BitVec 32)
  | setVibratoRange (v : BitVec 32)
  | setTuning (v : Pitch)
  | setLfoPllInc (v : BitVec 32)
  | setTrigDuration (v : BitVec 32)
  | setTrigShape (v : BitVec 32)
  | setTrigScale (v : BitVec 32)
deriving DecidableEq, Repr

/-- The commands a pseudo-command stands for, in order (R89). -/
def Pseudo.expand : Pseudo → List Instr
  | .calibrate codes => (List.finRange 11).map fun i => .calWrite (BitVec.ofNat 4 i.val) codes[i]
  | .ticks n => List.replicate n .refresh
  | .modWheel v => [.controlChange 1 v]
  | .breath v => [.controlChange 2 v]
  | .foot v => [.controlChange 4 v]
  | .setModRate v => [.cfgWrite 0 v]
  | .setBendRange v => [.cfgWrite 1 v]
  | .setVibratoRange v => [.cfgWrite 2 v]
  | .setTuning v => [.cfgWrite 3 (v.setWidth 32)]
  | .setLfoPllInc v => [.cfgWrite 4 v]
  | .setTrigDuration v => [.cfgWrite 5 v]
  | .setTrigShape v => [.cfgWrite 6 v]
  | .setTrigScale v => [.cfgWrite 7 v]

/-- The command of an opcode with these operands, where the check accepts them. -/
def RawCommand.toInstr? (r : RawCommand) : Option Instr :=
  if r.wellFormed then
    match r.opc.toNat, r.operands with
    | 0x0, [] => some .nop
    | 0x1, [rc] => some (.init (decide (rc ≠ 0)))
    | 0x2, [idx, code] => some (.calWrite (BitVec.ofInt 4 idx) (BitVec.ofInt 16 code))
    | 0x3, [note, velocity, amount, trigger] =>
        some (.noteOn (BitVec.ofInt 16 note) (BitVec.ofInt 7 velocity) (BitVec.ofInt 7 amount) (decide (trigger ≠ 0)))
    | 0x4, [] => some .noteOff
    | 0x5, [controller, value] => some (.controlChange (BitVec.ofInt 7 controller) (BitVec.ofInt 7 value))
    | 0x6, [bend] => some (.pitchBend (BitVec.ofInt 14 bend))
    | 0x7, [reg, data] => some (.cfgWrite (BitVec.ofInt 4 reg) (BitVec.ofInt 32 data))
    | 0x8, [] => some .refresh
    | 0x9, [] => some .rdNote
    | 0xA, [] => some .rdTrig
    | 0xB, [ch] => some (.rdAux (BitVec.ofInt 3 ch))
    | 0xC, [] => some .rdStatus
    | 0xD, [idx] => some (.rdCal (BitVec.ofInt 4 idx))
    | 0xE, [] => some .reservedE
    | 0xF, [] => some .reservedF
    | _, _ => none
  else none

/-- Why a line assembles to nothing. Details R88 leaves open are in log 15. -/
inductive AsmError where
  /-- No command and no pseudo-command has this mnemonic. -/
  | unknownMnemonic
  /-- An operand is not one of the forms of R88. -/
  | unreadableOperand
  /-- An operand is missing, left over or out of its range. -/
  | operandsDoNotFit
deriving DecidableEq, Repr

/-- The opcode of a mnemonic (R85); the two reserved opcodes have none. -/
def opcodeOf? (name : String) : Option (BitVec 4) :=
  match name with
  | "NOP" => some 0x0
  | "INIT" => some 0x1
  | "CAL_WRITE" => some 0x2
  | "NOTE_ON" => some 0x3
  | "NOTE_OFF" => some 0x4
  | "CONTROL_CHANGE" => some 0x5
  | "PITCH_BEND" => some 0x6
  | "CFG_WRITE" => some 0x7
  | "REFRESH" => some 0x8
  | "RD_NOTE" => some 0x9
  | "RD_TRIG" => some 0xA
  | "RD_AUX" => some 0xB
  | "RD_STATUS" => some 0xC
  | "RD_CAL" => some 0xD
  | _ => none

/-- A one-operand pseudo-command whose operand is passed on to a field of the expansion. -/
def onePseudo (o : Operand) (make : Int → Pseudo) (operands : List Int) : Except AsmError Pseudo :=
  match operands with
  | [v] => if o.holds v then .ok (make v) else .error .operandsDoNotFit
  | _ => .error .operandsDoNotFit

/-- The pseudo-command of a name with these operands (R89). -/
def pseudoOf (name : String) (operands : List Int) : Except AsmError Pseudo :=
  match name with
  | "CALIBRATE" =>
      if h : (operands.map (BitVec.ofInt 16)).length = 11 then
        if operands.all Operand.code.holds then
          .ok (.calibrate ⟨(operands.map (BitVec.ofInt 16)).toArray, by simpa using h⟩)
        else .error .operandsDoNotFit
      else .error .operandsDoNotFit
  | "TICKS" =>
      match operands with
      | [n] => if 0 ≤ n then .ok (.ticks n.toNat) else .error .operandsDoNotFit
      | _ => .error .operandsDoNotFit
  | "MOD_WHEEL" => onePseudo .value (fun v => .modWheel (BitVec.ofInt 7 v)) operands
  | "BREATH" => onePseudo .value (fun v => .breath (BitVec.ofInt 7 v)) operands
  | "FOOT" => onePseudo .value (fun v => .foot (BitVec.ofInt 7 v)) operands
  | "SET_MOD_RATE" => onePseudo .data (fun v => .setModRate (BitVec.ofInt 32 v)) operands
  | "SET_BEND_RANGE" => onePseudo .data (fun v => .setBendRange (BitVec.ofInt 32 v)) operands
  | "SET_VIBRATO_RANGE" => onePseudo .data (fun v => .setVibratoRange (BitVec.ofInt 32 v)) operands
  | "SET_TUNING" => onePseudo .note (fun v => .setTuning (BitVec.ofInt 16 v)) operands
  | "SET_LFO_PLL_INC" => onePseudo .data (fun v => .setLfoPllInc (BitVec.ofInt 32 v)) operands
  | "SET_TRIG_DURATION" => onePseudo .data (fun v => .setTrigDuration (BitVec.ofInt 32 v)) operands
  | "SET_TRIG_SHAPE" => onePseudo .data (fun v => .setTrigShape (BitVec.ofInt 32 v)) operands
  | "SET_TRIG_SCALE" => onePseudo .data (fun v => .setTrigScale (BitVec.ofInt 32 v)) operands
  | _ => .error .unknownMnemonic

/-- The value of a digit in this base, if it is one. -/
def digitOf? (base : Nat) (c : Char) : Option Nat :=
  let n := c.toNat
  let d := if 48 ≤ n ∧ n ≤ 57 then n - 48 else if 97 ≤ n ∧ n ≤ 102 then n - 87
    else if 65 ≤ n ∧ n ≤ 70 then n - 55 else base
  if d < base then some d else none

/-- Digits read onto what has been read so far. -/
def digitsFrom? (base acc : Nat) : List Char → Option Nat
  | [] => some acc
  | c :: cs =>
    match digitOf? base c with
    | some d => digitsFrom? base (acc * base + d) cs
    | none => none

/-- A number with at least one digit. -/
def number? (base : Nat) : List Char → Option Nat
  | [] => none
  | c :: cs => digitsFrom? base 0 (c :: cs)

/-- One operand of R88: decimal, signed decimal, hexadecimal with `0x`, or `n<<7`. -/
def operand? (text : List Char) : Option Int :=
  match text with
  | '0' :: 'x' :: hex => (number? 16 hex).map Int.ofNat
  | '-' :: digits => (number? 10 digits).map fun n => -(n : Int)
  | digits =>
    if digits.drop (digits.length - 3) = ['<', '<', '7'] then
      (number? 10 (digits.take (digits.length - 3))).map fun n => (n : Int) * 128
    else (number? 10 digits).map Int.ofNat

/-- The text before the first `;`: a comment runs to the end of the line (R88). -/
def withoutComment (line : List Char) : List Char := line.takeWhile (· ≠ ';')

/-- The text without blanks at its two ends. -/
def trimmed (text : List Char) : List Char :=
  ((text.dropWhile (· = ' ')).reverse.dropWhile (· = ' ')).reverse

/-- The operand texts, separated by commas; no text holds no operand. -/
def operandTexts (text : List Char) : List (List Char) :=
  if trimmed text = [] then [] else (text.splitOn ',').map trimmed

/-- The operands of a line, if each is readable. -/
def operands? : List (List Char) → Option (List Int)
  | [] => some []
  | t :: ts =>
    match operand? t, operands? ts with
    | some v, some vs => some (v :: vs)
    | _, _ => none

/-- The commands one line of text stands for (R88, R89): none for a line with only blanks and a comment. -/
def assembleLine (line : List Char) : Except AsmError (List Instr) :=
  let text := trimmed (withoutComment line)
  if text = [] then .ok []
  else
    let name := String.ofList (text.takeWhile (· ≠ ' '))
    match operands? (operandTexts (text.dropWhile (· ≠ ' '))) with
    | none => .error .unreadableOperand
    | some operands =>
      match opcodeOf? name with
      | some opc =>
        match RawCommand.toInstr? { opc := opc, operands := operands } with
        | some i => .ok [i]
        | none => .error .operandsDoNotFit
      | none => (pseudoOf name operands).map Pseudo.expand

/-- The command words one line of text assembles to: an assembler produces canonical encodings (R87). -/
def assembleWords (line : List Char) : Except AsmError (List CmdWord) :=
  (assembleLine line).map (·.map encodeCanonical)

end Sys2Proof.Machine
end

