-- ==== Sys2Proof/Machine/Converter.lean ====
section
/-! DEFINITION. The converter: eight independent Voices (60_exceptions R207). Which voice gets a command next is the
choice of the multi-voice manager, which is out of scope (00_scope R4 f), so it is an argument here (log 14). -/

namespace Sys2Proof.Machine

/-- Eight instances of the block, each with a complete state of its own (R207). -/
structure Converter where
  voices : Vector State 8
deriving DecidableEq, Repr

/-- All eight voices come out of hardware reset in the same state (R207). -/
def Converter.reset : Converter := { voices := Vector.replicate 8 State.reset }

/-- One step of voice `i`. -/
def Converter.stepVoice (i : Fin 8) (c : Converter) : Host.Outcome Converter Fault Refusal :=
  match step c.voices[i] with
  | .next t => .next { voices := c.voices.set i t }
  | .fault r => .fault r
  | .refused r => .refused r

end Sys2Proof.Machine
end

