-- ==== Sys2Proof/Machine/Ports.lean ====
section
/-! DEFINITION. The output ports (10_state R50, 30_encoding R80): pure functions of the state between commands. -/

namespace Sys2Proof.Machine

/-- The output ports as a host samples them between commands. -/
structure Outputs where
  /-- `OUT_NOTE`. -/
  outNote : Code
  /-- `OUT_TRIG`. -/
  outTrig : Code
  /-- `OUT_AUX[0..7]`. -/
  outAux : Vector Code 8
  /-- `GATE_OUT`. -/
  gateLevel : Bool
  /-- `TRIG_OUT`. -/
  trigLevel : Bool
deriving DecidableEq, Repr

/-- The output ports (R50). -/
def State.outputs (s : State) : Outputs where
  outNote := s.noteDacCode
  outTrig := trigCode s
  outAux := s.aux
  gateLevel := gateOut s
  trigLevel := trigOut s

/-- `rsp_valid` after a step (R80, R82). -/
def State.rspValid (s : State) : Bool := s.rsp.isSome

/-- `cmd_ready` between commands: the block can accept the next one (R80, R81, 70_reset R220). While a command
executes it is 0, which no state between steps shows (log 7). -/
def State.cmdReady (_ : State) : Bool := true

end Sys2Proof.Machine
end

