-- ==== Sys2Proof/Machine/Run.lean ====
section
/-! DEFINITION. Runs (70_reset R230): command words executed one after the other, and what a host observes of them. -/

namespace Sys2Proof.Machine

/-- What a host observes after one step: the response, if there is one, and the output ports (R230). -/
structure Observation where
  response : Option Code
  ports : Outputs
deriving DecidableEq, Repr

/-- The observation a state gives. -/
def State.observe (s : State) : Observation := { response := s.rsp, ports := s.outputs }

/-- A host about to present these command words, in this order, and nothing else. -/
def State.presenting (s : State) (words : List CmdWord) : State :=
  { s with hostStream := words.map PortEvent.command }

/-- What a host observes after each of the next `k` steps. -/
def observations : Nat → State → List Observation
  | 0, _ => []
  | k + 1, s =>
    match step s with
    | .next t => t.observe :: observations k t
    | .fault _ => []
    | .refused _ => []

/-- A run (R230): the words executed from the reset state, and what is observed after each. -/
def runFromReset (words : List CmdWord) : List Observation :=
  observations words.length (State.reset.presenting words)

/-- Commands executed one after the other (30_encoding R81). -/
def execAll : List Instr → State → Host.Outcome State Fault Refusal
  | [], s => .next s
  | i :: is, s =>
    match exec i s with
    | .next t => execAll is t
    | .fault r => .fault r
    | .refused r => .refused r

/-- `TICKS n` (30_encoding R89): REFRESH `n` times. -/
def ticks (n : Nat) (s : State) : Host.Outcome State Fault Refusal := execAll (List.replicate n .refresh) s

end Sys2Proof.Machine
end

