-- ==== Sys2Proof/Safety.lean ====
section
/-! DEFINITION. What claims call a good state and a completed command. -/

namespace Sys2Proof.Machine

/-- The command completes: it answers a next state (30_encoding R81). -/
def Completes (i : Instr) (s : State) : Prop := ∃ t, exec i s = .next t

/-- What holds of a Voice in every state that a run from reset reaches. -/
structure GoodState (s : State) : Prop where
  /-- When no calibration change is pending, the published code is that of the published pitch (42_pitch_pipeline
  R128, 20_memory R70). -/
  codeFresh : s.dirty = false → s.noteDacCode = quantize s.cal s.currentNote.toInt
  /-- The composed pitch fits (42_pitch_pipeline R127). -/
  pitchLow : -130561 ≤ s.currentNote.toInt
  /-- The composed pitch fits (42_pitch_pipeline R127). -/
  pitchHigh : s.currentNote.toInt ≤ 130561
  /-- The retrigger countdown (10_state R38). -/
  gapBound : s.retriggerDelay.toNat ≤ 2
  /-- The pulse countdown (10_state R39). -/
  pulseBound : s.triggerPulse.toNat ≤ 1016
  /-- No command but INIT writes channel 7 (10_state R37). -/
  auxSeven : s.aux[7] = 0
  /-- A glide with no increment is idle or stalled at its start (10_state R25, 41_glide R118). -/
  glideIdle : s.portamentoPhaseIncrement = 0 → s.portamentoPhase = 0
  /-- An envelope with no increment is idle (10_state R41, 44_trigger R163). -/
  envelopeIdle : s.triggerPhaseIncrement = 0 → s.triggerPhase = 0

/-- An operand as the field column and the "read as" column of 30_encoding R84 give it, by arithmetic on the word. -/
def operandField (o : Operand) (w : CmdWord) : Int :=
  match o with
  | .rc => (w.toNat % 2 : Nat)
  | .idx => (w.toNat / 2 ^ 16 % 2 ^ 4 : Nat)
  | .code => (w.toNat % 2 ^ 16 : Nat)
  | .note => if w.toNat % 2 ^ 16 < 2 ^ 15 then (w.toNat % 2 ^ 16 : Nat) else ((w.toNat % 2 ^ 16 : Nat) : Int) - 2 ^ 16
  | .velocity => (w.toNat / 2 ^ 16 % 2 ^ 7 : Nat)
  | .amount => (w.toNat / 2 ^ 23 % 2 ^ 7 : Nat)
  | .trigger => (w.toNat / 2 ^ 30 % 2 : Nat)
  | .controller => (w.toNat / 2 ^ 8 % 2 ^ 7 : Nat)
  | .value => (w.toNat % 2 ^ 7 : Nat)
  | .bend => (w.toNat % 2 ^ 14 : Nat)
  | .reg => (w.toNat / 2 ^ 32 % 2 ^ 4 : Nat)
  | .data => (w.toNat % 2 ^ 32 : Nat)
  | .ch => (w.toNat % 2 ^ 3 : Nat)

end Sys2Proof.Machine
end

