-- ==== Sys2Proof/Certificates/Slice0/Obligations.lean ====
section
/-! DEFINITION. The statements for the provers, each in the spec's own arithmetic: `/` on integers with a positive
divisor is the floor of 00_scope R9, a field of a word or a phase is a quotient and a remainder by powers of two. -/

open Sys2Proof Sys2Proof.Machine

/-! ## Encoding -/

/-- Decoding the word, or the bytes, that the encoder writes gives the command back, whatever bytes follow. The byte
stream with bytes after the command is the model's form (log 10). -/
def Obligations.DecodeOfEncode : Prop :=
  ∀ (i : Instr) (rest : List Byte), i.WellFormed →
    decodeWord (encode i) = i ∧ decodeBytes (encodeBytes i ++ rest) = .ok (i, rest)

/-- Encoding what a word decodes to gives the word with the bits outside its operands cleared: no bit of an operand is
lost. The word form without reserved bits is the model's syntax (log 11). -/
def Obligations.EncodeOfDecode : Prop :=
  ∀ w : CmdWord, encode (decodeWord w) = w &&& meaningfulBits (decodeWord w) ∧ (decodeWord w).WellFormed

/-- Words that differ only in reserved or ignored bits do the same, and so do CFG_WRITE data that agree on the bits
the register keeps. The canonical encoding has all those bits zero, does the same, and is what the assembler writes. -/
def Obligations.IgnoredBitsDoNothing : Prop :=
  (∀ (w w' : CmdWord) (s : State) (rest : List PortEvent),
    w &&& meaningfulBits (decodeWord w) = w' &&& meaningfulBits (decodeWord w) →
    decodeWord w' = decodeWord w ∧
      step { s with hostStream := .command w' :: rest } = step { s with hostStream := .command w :: rest }) ∧
  (∀ (reg : BitVec 4) (data data' : BitVec 32) (s : State),
    data.toNat % 2 ^ keptBits reg = data'.toNat % 2 ^ keptBits reg →
    exec (.cfgWrite reg data) s = exec (.cfgWrite reg data') s) ∧
  (∀ i : Instr, encodeCanonical i &&& ~~~meaningfulBits i = 0 ∧
    ∀ reg data, reg.toNat ≤ 7 → i = .cfgWrite reg data →
      (encodeCanonical i).toNat % 2 ^ 32 = data.toNat % 2 ^ keptBits reg) ∧
  (∀ (w : CmdWord) (s : State) (rest : List PortEvent),
    step { s with hostStream := .command (encodeCanonical (decodeWord w)) :: rest } =
      step { s with hostStream := .command w :: rest }) ∧
  ∀ (line : List Char) (words : List CmdWord), assembleWords line = .ok words →
    ∃ commands, assembleLine line = .ok commands ∧ words = commands.map encodeCanonical

/-- Worked words of the spec (95_test_vectors section 3.1) decode to the commands it says. -/
def Obligations.WorkedWordsDecode : Prop :=
  decodeWord 0x3040641E00 = .noteOn 7680 100 0 true ∧
  decodeWord 0x307FFFFF80 = .noteOn (BitVec.ofInt 16 (-128)) 127 127 true ∧
  decodeWord 0x2000057530 = .calWrite 5 30000 ∧
  decodeWord 0x500000017F = .controlChange 1 127 ∧
  decodeWord 0x7412345678 = .cfgWrite 4 0x12345678 ∧
  decodeWord 0xD0000FFFFF = .rdCal 15 ∧
  decodeWord 0xFFFFFFFFFF = .reservedF

/-- Each operand is one contiguous, unscaled field of the word, in the range of its type. -/
def Obligations.OperandsAreFields : Prop :=
  ∀ w : CmdWord,
    (decodeWord w).opc.toNat = w.toNat / 2 ^ 36 ∧
    (decodeWord w).operandValues = (operandsOf (decodeWord w).opc).map (operandField · w) ∧
    ∀ o ∈ operandsOf (decodeWord w).opc, o.range.1 ≤ operandField o w ∧ operandField o w ≤ o.range.2

/-- A serialised command word is read most significant byte first; a response is serialised so. From 20_memory R62;
reading one command off a longer stream is the model's form (log 10). -/
def Obligations.BytesAreMostSignificantFirst : Prop :=
  (∀ (b0 b1 b2 b3 b4 : Byte) (rest : List Byte),
    decodeBytes (b0 :: b1 :: b2 :: b3 :: b4 :: rest) =
      .ok (decodeWord (BitVec.ofNat 40
        (b0.toNat * 2 ^ 32 + b1.toNat * 2 ^ 24 + b2.toNat * 2 ^ 16 + b3.toNat * 2 ^ 8 + b4.toNat)), rest)) ∧
  ∀ v : Code, (bytesOfResponse v).map BitVec.toNat = [v.toNat / 2 ^ 8, v.toNat % 2 ^ 8]

/-! ## Steps, reset -/

/-- A step accepts the next command word and runs the command it decodes to, on the state without that word; the word
that `withFetchWord` presents is the next one. The stream of the host as a field is the model's own (log 2). -/
def Obligations.StepRunsDecodedCommand : Prop :=
  (∀ (s : State) (w : CmdWord) (rest : List PortEvent), s.hostStream = .command w :: rest →
    step s = exec (decodeWord w) { s with hostStream := rest }) ∧
  ∀ (s : State) (w : CmdWord), decodeTableWord 40 w.toNat = some (decodeWord w) ∧
    step (s.withFetchWord 40 w.toNat) = exec (decodeWord w) s

/-- With nothing presented the block waits, keeps its state and gives no response; a pulse of `rst_n` between two
commands leaves the reset state, with the ROMs and the rest of the host's stream. The spec has no such steps: that both
are steps of the stream is the model's own choice (logs 4 and 5). -/
def Obligations.IdleAndResetPulseSteps : Prop :=
  (∀ s : State, s.hostStream = [] → step s = .next { s with rsp := none }) ∧
  ∀ (s : State) (rest : List PortEvent), s.hostStream = .resetPulse :: rest →
    step s = .next { State.reset with rom := s.rom, hostStream := rest }

/-- Every command completes and every step answers a next state: nothing faults, nothing is refused. -/
def Obligations.EveryStepCompletes : Prop :=
  (∀ (i : Instr) (s : State), Completes i s) ∧ ∀ s : State, ∃ t, step s = .next t

/-- INIT writes every state element the value of the table of 10_state R57, the calibration table only with `rc = 1`;
the pitch code is that of middle C on the table as it then stands. It leaves the reset state. -/
def Obligations.InitRestoresReset : Prop :=
  (encode (.init false) = 0x1000000000 ∧ encode (.init true) = 0x1000000001 ∧
    ∀ w : CmdWord, w.toNat / 2 ^ 36 = 1 → decodeWord w = .init (decide (w.toNat % 2 = 1))) ∧
  ∀ s : State,
    let after (cal : Vector Code 11) (code : Code) : State :=
      { currentNote := 7680, noteSource := 7680, noteTarget := 7680, notePortamento := 7680, gate := false
        portamentoPhase := 0, portamentoPhaseIncrement := 0, portamentoExponentialShape := false
        lfoPhase := 0, lfoPllPhaseIncrement := 0, modulationRate := 0, pitchBendRange := 2, vibratoRange := 0
        tuning := 0, triggerDuration := 2, triggerShape := 0, triggerScale := false
        modVelocity := 0, modWheel := 0, modPitchBend := 8192, aux := #v[0, 0, 0, 0, 0, 0, 0, 0]
        retriggerDelay := 0, triggerPulse := 0, triggerPhase := 0, triggerPhaseIncrement := 0
        cal := cal, dirty := false, noteDacCode := code, rom := s.rom, hostStream := s.hostStream, rsp := none }
    let default : Vector Code 11 := #v[54586, 49453, 44320, 39187, 34054, 28921, 23788, 18655, 13522, 8389, 3256]
    exec (.init true) s = .next (after default 28921) ∧
    exec (.init false) s = .next (after s.cal s.cal[5]) ∧ quantize s.cal 7680 = s.cal[5] ∧
    (∀ i : Nat, (h : i < 11) → (default[i].toNat : Int) = 54586 - 5133 * i) ∧
    (after default 28921).outputs.outNote = 28921 ∧ (after default 28921).outputs.outTrig = 39187 ∧
    after default 28921 = { State.reset with rom := s.rom, hostStream := s.hostStream }

/-- What the output ports show after hardware reset. From 70_reset R220; that no state between steps shows `cmd_ready
= 0` is the model's choice (log 7). -/
def Obligations.ResetOutputPorts : Prop :=
  State.reset.outputs.outNote = 28921 ∧ State.reset.outputs.outTrig = 39187 ∧
  (∀ i, (h : i < 8) → State.reset.outputs.outAux[i] = 0) ∧
  State.reset.outputs.gateLevel = false ∧ State.reset.outputs.trigLevel = false ∧
  State.reset.rspValid = false ∧ State.reset.cmdReady = true

/-! ## Quantizer and calibration table -/

/-- The code of a pitch, clamped to the range, is the exact interpolation between the two calibration entries around it,
truncated toward zero. -/
def Obligations.QuantizeInterpolates : Prop :=
  ∀ (cal : Vector Code 11) (note : Int) (k : Nat), (h : k + 1 < 11) → min (max note 0) 15359 / 1536 = (k : Int) →
    let a : Int := cal[k].toNat
    let b : Int := cal[k + 1].toNat
    ((quantize cal note).toNat : Int) = a + ((b - a) * (min (max note 0) 15359 % 1536)).tdiv 1536

/-- Below the range the first entry, at or above it the last bracket, at an octave boundary the entry itself, and every
code between the two entries around its pitch (40_quantizer R100 marks that as its own inference). -/
def Obligations.QuantizeEdges : Prop :=
  ∀ cal : Vector Code 11,
    (∀ (note : Int) (k : Nat), (h : k + 1 < 11) → min (max note 0) 15359 / 1536 = (k : Int) →
      min cal[k].toNat cal[k + 1].toNat ≤ (quantize cal note).toNat ∧
      (quantize cal note).toNat ≤ max cal[k].toNat cal[k + 1].toNat) ∧
    (∀ note : Int, note ≤ 0 → quantize cal note = cal[0]) ∧
    (∀ note : Int, 15360 ≤ note → quantize cal note = quantize cal 15359) ∧
    ∀ k, (h : k < 10) → quantize cal ((k * 1536 : Nat) : Int) = cal[k]

/-- Quantization is monotone in the direction of a monotone table. -/
def Obligations.QuantizeMonotone : Prop :=
  ∀ (cal : Vector Code 11) (n1 n2 : Int), n1 ≤ n2 →
    ((∀ i, (h : i + 1 < 11) → cal[i].toNat ≤ cal[i + 1].toNat) →
      (quantize cal n1).toNat ≤ (quantize cal n2).toNat) ∧
    ((∀ i, (h : i + 1 < 11) → cal[i + 1].toNat ≤ cal[i].toNat) →
      (quantize cal n2).toNat ≤ (quantize cal n1).toNat)

/-- The document's loop of at most nine subtractions finds the quotient and the remainder, and never leaves the
table. That the two forms agree is the spec's own inference (40_quantizer R101). -/
def Obligations.OctaveLoopDivides : Prop :=
  ∀ n : Nat, n ≤ 15359 → octaveLoop 9 0 n = (n / 1536, n % 1536) ∧ n / 1536 + 1 ≤ 10

/-- CAL_WRITE: entries 0 to 10 are written and `dirty` is set, indices 11 to 15 change nothing. -/
def Obligations.CalWriteResult : Prop :=
  (encode (.calWrite 5 30000) = 0x2000057530 ∧ ∀ w : CmdWord, w.toNat / 2 ^ 36 = 2 →
    decodeWord w = .calWrite (BitVec.ofNat 4 (w.toNat / 2 ^ 16)) (BitVec.ofNat 16 w.toNat)) ∧
  ∀ (idx : BitVec 4) (code : Code) (s : State),
    (∀ h : idx.toNat < 11, exec (.calWrite idx code) s =
      .next { s with cal := s.cal.set idx.toNat code h, dirty := true, rsp := none }) ∧
    (11 ≤ idx.toNat → exec (.calWrite idx code) s = .next { s with rsp := none })

/-- RD_CAL responds the entry, beyond the table the last one, and writes nothing. -/
def Obligations.RdCalResponds : Prop :=
  (encode (.rdCal 3) = 0xD000030000 ∧
    ∀ w : CmdWord, w.toNat / 2 ^ 36 = 13 → decodeWord w = .rdCal (BitVec.ofNat 4 (w.toNat / 2 ^ 16))) ∧
  (∀ s : State, ∃ t, exec (.init true) s = .next t ∧ exec (.rdCal 3) t = .next { t with rsp := some 39187 }) ∧
  ∀ (idx : BitVec 4) (s : State),
    (∀ h : idx.toNat < 11, exec (.rdCal idx) s = .next { s with rsp := some s.cal[idx.toNat] }) ∧
    (11 ≤ idx.toNat → exec (.rdCal idx) s = .next { s with rsp := some s.cal[10] })

/-- RD_NOTE responds the register, which is the port OUT_NOTE, and writes nothing. -/
def Obligations.RdNoteResponds : Prop :=
  (encode .rdNote = 0x9000000000 ∧ ∀ w : CmdWord, w.toNat / 2 ^ 36 = 9 → decodeWord w = .rdNote) ∧
  (∀ s : State, ∃ t, exec (.init true) s = .next t ∧ exec .rdNote t = .next { t with rsp := some 28921 }) ∧
  ∀ s : State, exec .rdNote s = .next { s with rsp := some s.noteDacCode } ∧ s.outputs.outNote = s.noteDacCode

/-- The eleven commands of CALIBRATE load the whole table and set `dirty`. The spec's own inference (40_quantizer
R105). -/
def Obligations.CalibrateLoadsTable : Prop :=
  ∀ (codes : Vector Code 11) (s : State),
    execAll (Pseudo.calibrate codes).expand s = .next { s with cal := codes, dirty := true, rsp := none }

/-- A calibration write leaves the pitch code stale until the next REFRESH, which computes it on the new table. From
20_memory R70 (d). -/
def Obligations.PitchCodeStaleUntilRefresh : Prop :=
  ∀ (idx : BitVec 4) (code : Code) (s : State), idx.toNat ≤ 10 →
    ∃ t u, exec (.calWrite idx code) s = .next t ∧ t.noteDacCode = s.noteDacCode ∧ t.dirty = true ∧
      exec .refresh t = .next u ∧ u.noteDacCode = quantize t.cal u.currentNote.toInt ∧ u.dirty = false

/-! ## Glide -/

/-- The interpolating lookup: the formula, its bounds, the table entry at fraction zero, the low eight bits ignored.
The bounds are the spec's own inference (41_glide R112). -/
def Obligations.InterpolationBetweenEntries : Prop :=
  ∀ (entry : Nat → Int) (phase : Phase),
    let i : Nat := phase.toNat / 2 ^ 24
    let f : Nat := phase.toNat / 2 ^ 8 % 2 ^ 16
    interp824 entry phase = entry i + (entry (i + 1) - entry i) * f / 2 ^ 16 ∧ i + 1 ≤ 256 ∧
    min (entry i) (entry (i + 1)) ≤ interp824 entry phase ∧
    interp824 entry phase ≤ max (entry i) (entry (i + 1)) ∧
    (interp824 entry phase = entry (i + 1) → entry (i + 1) ≤ entry i) ∧
    (f = 0 → interp824 entry phase = entry i) ∧
    ∀ phase' : Phase, phase'.toNat / 2 ^ 8 = phase.toNat / 2 ^ 8 → interp824 entry phase' = interp824 entry phase

/-- NOTE_ON: the whole next state, every element not named unchanged. -/
def Obligations.NoteOnResult : Prop :=
  (encode (.noteOn 7680 100 0 true) = 0x3040641E00 ∧ ∀ w : CmdWord, w.toNat / 2 ^ 36 = 3 →
    decodeWord w = .noteOn (BitVec.ofNat 16 w.toNat) (BitVec.ofNat 7 (w.toNat / 2 ^ 16))
      (BitVec.ofNat 7 (w.toNat / 2 ^ 23)) (decide (w.toNat / 2 ^ 30 % 2 = 1))) ∧
  ∀ (note : Pitch) (velocity amount : BitVec 7) (trigger : Bool) (s : State),
    ∃ t, exec (.noteOn note velocity amount trigger) s = .next t ∧
      t = { s with
        noteSource := if amount = 0 then note else s.notePortamento
        noteTarget := note
        portamentoPhase := 0
        portamentoPhaseIncrement := t.portamentoPhaseIncrement
        portamentoExponentialShape := decide (amount.toNat ≤ 50)
        modVelocity := velocity
        gate := true
        retriggerDelay := if trigger = true ∧ s.gate = true then 2 else s.retriggerDelay
        triggerPulse := if trigger = true then BitVec.ofNat 10 (s.triggerDuration.toNat * 8) else s.triggerPulse
        triggerPhase := if trigger = true then 0 else s.triggerPhase
        triggerPhaseIncrement :=
          if trigger = true then s.rom.portInc[s.triggerDuration.toNat]'s.triggerDuration.isLt
          else s.triggerPhaseIncrement
        rsp := none } ∧
      (∀ h : amount.toNat ≤ 50, t.portamentoPhaseIncrement = s.rom.portInc[2 * amount.toNat]) ∧
      ∀ a, (h : 51 ≤ a ∧ a ≤ 100) → a = min amount.toNat 100 →
        (t.portamentoPhaseIncrement.toNat : Int) =
          min (max ((1536 * ((s.rom.portInc[2 * (a - 51)]).toNat / 2 ^ 11) /
            ((note.toInt - s.notePortamento.toInt).natAbs + 1) * 2 ^ 11 : Nat) : Int) 1) (2 ^ 31 - 1)

/-- A shape B increment is at least 1 and at most 2^31 - 1; below a base of 2048 it is 1; at zero distance it is
exact until the clamp. The spec's own inferences (41_glide R114). -/
def Obligations.ShapeBIncrementBounds : Prop :=
  ∀ (base : Phase) (delta : Nat), 1 ≤ delta →
    1 ≤ (shapeBIncrement base delta).toNat ∧ (shapeBIncrement base delta).toNat ≤ 2 ^ 31 - 1 ∧
    (base.toNat < 2048 → shapeBIncrement base delta = 1) ∧
    (2 ^ 21 ≤ base.toNat → shapeBIncrement base 1 = 0x7FFFFFFF) ∧
    (2048 ≤ base.toNat → base.toNat < 2 ^ 31 →
      (shapeBIncrement base 1536).toNat = base.toNat / 2 ^ 11 * 2 ^ 11)

/-- REFRESH advances the glide phase by its increment, wrapping at 2^32; when the sum wraps the glide completes: phase and
increment become zero and the source snaps to the target. -/
def Obligations.RefreshAdvancesGlide : Prop :=
  ∀ s t : State, exec .refresh s = .next t →
    let inc := s.portamentoPhaseIncrement.toNat
    let p := (s.portamentoPhase.toNat + inc) % 2 ^ 32
    (p < inc → t.portamentoPhase = 0 ∧ t.portamentoPhaseIncrement = 0 ∧ t.noteSource = s.noteTarget) ∧
    (inc ≤ p → t.portamentoPhase.toNat = p ∧ t.portamentoPhaseIncrement = s.portamentoPhaseIncrement ∧
      t.noteSource = s.noteSource) ∧
    t.noteTarget = s.noteTarget ∧ t.portamentoExponentialShape = s.portamentoExponentialShape

/-- REFRESH interpolates the pitch between source and target by the level of the phase it has just stepped. -/
def Obligations.RefreshInterpolatesPitch : Prop :=
  ∀ (s t : State) (level : Int), exec .refresh s = .next t →
    (s.portamentoExponentialShape = false → level = (t.portamentoPhase.toNat / 2 ^ 16 : Nat)) →
    (∀ i, (h : i + 1 < 257) → s.portamentoExponentialShape = true → i = t.portamentoPhase.toNat / 2 ^ 24 →
      level = (s.rom.envExpo[i].toNat : Int) +
        ((s.rom.envExpo[i + 1].toNat : Int) - (s.rom.envExpo[i].toNat : Int)) *
          (t.portamentoPhase.toNat / 2 ^ 8 % 2 ^ 16 : Nat) / 2 ^ 16) →
    0 ≤ level ∧ level ≤ 65535 ∧
    t.notePortamento.toInt = t.noteSource.toInt + (t.noteTarget.toInt - t.noteSource.toInt) * level / 2 ^ 16

/-- How long a glide takes: armed at phase 0 with increment `I > 0`, after `k` ticks the phase is `k * I` while that
is below 2^32, and from tick `ceil(2^32 / I)` on the glide is complete and idle, the pitch at the target. The spec's
own inference (41_glide R117), for ticks with no other command between them. -/
def Obligations.GlideDuration : Prop :=
  ∀ s : State, s.portamentoPhase = 0 → s.portamentoPhaseIncrement ≠ 0 →
    ∀ k : Nat, ∃ t, ticks k s = .next t ∧ t.noteTarget = s.noteTarget ∧
      (k * s.portamentoPhaseIncrement.toNat < 2 ^ 32 →
        t.portamentoPhase.toNat = k * s.portamentoPhaseIncrement.toNat ∧
        t.portamentoPhaseIncrement = s.portamentoPhaseIncrement ∧ t.noteSource = s.noteSource) ∧
      (2 ^ 32 ≤ k * s.portamentoPhaseIncrement.toNat →
        t.portamentoPhase = 0 ∧ t.portamentoPhaseIncrement = 0 ∧ t.noteSource = s.noteTarget ∧
        t.notePortamento = s.noteTarget)

/-- A shape A glide with a zero increment never advances and never completes. From 41_glide R118, for ticks with no
other command between them. -/
def Obligations.ZeroIncrementGlideStalls : Prop :=
  ∀ s : State, s.portamentoPhase = 0 → s.portamentoPhaseIncrement = 0 → s.portamentoExponentialShape = true →
    ∀ k : Nat, ∃ t, ticks (k + 1) s = .next t ∧ t.portamentoPhase = 0 ∧ t.portamentoPhaseIncrement = 0 ∧
      t.noteSource = s.noteSource ∧
      t.notePortamento.toInt = s.noteSource.toInt +
        (s.noteTarget.toInt - s.noteSource.toInt) * (s.rom.envExpo[0].toNat : Int) / 2 ^ 16

/-- With amount 0 the pitch is at the target from the first tick on. The spec's own inference (41_glide R120). -/
def Obligations.NoPortamentoReachesTarget : Prop :=
  ∀ (note : Pitch) (velocity : BitVec 7) (trigger : Bool) (s : State) (k : Nat),
    ∃ t u, exec (.noteOn note velocity 0 trigger) s = .next t ∧ t.notePortamento = s.notePortamento ∧
      ticks (k + 1) t = .next u ∧ u.notePortamento = note ∧ u.noteSource = note ∧ u.noteTarget = note

/-! ## The tick -/

/-- REFRESH completes and leaves every element it does not own unchanged; `dirty` is clear after it. -/
def Obligations.RefreshFrame : Prop :=
  (encodeCanonical .refresh = 0x8000000000 ∧ ∀ w : CmdWord, w.toNat / 2 ^ 36 = 8 → decodeWord w = .refresh) ∧
  ∀ s : State, ∃ t, exec .refresh s = .next t ∧
    t = { s with
      noteSource := t.noteSource
      notePortamento := t.notePortamento
      portamentoPhase := t.portamentoPhase
      portamentoPhaseIncrement := t.portamentoPhaseIncrement
      lfoPhase := t.lfoPhase
      aux := t.aux
      retriggerDelay := t.retriggerDelay
      triggerPulse := t.triggerPulse
      triggerPhase := t.triggerPhase
      triggerPhaseIncrement := t.triggerPhaseIncrement
      noteDacCode := t.noteDacCode
      currentNote := t.currentNote
      dirty := false
      rsp := none }

/-- REFRESH composes glide, bend, tuning and vibrato exactly, and recomputes the pitch code only when the composed pitch
changed or `dirty` was set. -/
def Obligations.RefreshPublishesComposedPitch : Prop :=
  ∀ s t : State, exec .refresh s = .next t →
    let note : Int := t.notePortamento.toInt + ((s.modPitchBend.toNat : Int) - 8192) * s.pitchBendRange.toNat / 2 ^ 6 +
      s.tuning.toInt + lfoWave t.lfoPhase * s.modWheel.toNat * s.vibratoRange.toNat / 2 ^ 15
    t.currentNote.toInt = note ∧ t.dirty = false ∧
    (note ≠ s.currentNote.toInt ∨ s.dirty = true → t.noteDacCode = quantize s.cal note) ∧
    (note = s.currentNote.toInt → s.dirty = false → t.noteDacCode = s.noteDacCode)

/-- What the spec infers of the pitches a REFRESH leaves: the interpolated pitch between source and target (41_glide
R116), the composed pitch within 130561 (42_pitch_pipeline R127), and, from a good state, the published code that of the
published pitch on the current table (42_pitch_pipeline R128). -/
def Obligations.RefreshPitchBoundsAndFreshCode : Prop :=
  ∀ s t : State, exec .refresh s = .next t →
    min t.noteSource.toInt t.noteTarget.toInt ≤ t.notePortamento.toInt ∧
    t.notePortamento.toInt ≤ max t.noteSource.toInt t.noteTarget.toInt ∧
    -130561 ≤ t.currentNote.toInt ∧ t.currentNote.toInt ≤ 130561 ∧
    (GoodState s → t.noteDacCode = quantize t.cal t.currentNote.toInt)

/-- The auxiliary channels after REFRESH: five recomputed without truncation, three unchanged. Beside REFRESH and INIT
only CONTROL_CHANGE writes a channel, and only channels 2 and 3. -/
def Obligations.RefreshUpdatesAux : Prop :=
  (∀ (i : Instr) (s t : State), exec i s = .next t → i ≠ .refresh → (∀ rc, i ≠ .init rc) →
    ∀ ch, (h : ch < 8) → t.aux[ch] ≠ s.aux[ch] →
      (ch = 2 ∧ ∃ value, i = .controlChange 2 value) ∨ (ch = 3 ∧ ∃ value, i = .controlChange 4 value)) ∧
  ∀ s t : State, exec .refresh s = .next t →
    t.aux[0].toNat = s.modVelocity.toNat * 2 ^ 9 ∧
    t.aux[1].toNat = s.modWheel.toNat * 2 ^ 9 ∧
    t.aux[4].toNat = s.modPitchBend.toNat * 2 ^ 2 ∧
    (t.aux[5].toNat : Int) = lfoWave t.lfoPhase * s.modWheel.toNat / 2 ^ 7 + 32768 ∧
    256 ≤ t.aux[5].toNat ∧ t.aux[5].toNat ≤ 65279 ∧
    (t.aux[6].toNat : Int) = lfoWave t.lfoPhase + 32768 ∧
    t.aux[2] = s.aux[2] ∧ t.aux[3] = s.aux[3] ∧ t.aux[7] = s.aux[7]

/-- REFRESH decrements both countdowns, floored at zero, and advances the envelope phase with the same
overflow-means-done rule as the glide. -/
def Obligations.RefreshAdvancesTriggerUnit : Prop :=
  ∀ s t : State, exec .refresh s = .next t →
    t.retriggerDelay.toNat = s.retriggerDelay.toNat - 1 ∧ t.triggerPulse.toNat = s.triggerPulse.toNat - 1 ∧
    let inc := s.triggerPhaseIncrement.toNat
    let p := (s.triggerPhase.toNat + inc) % 2 ^ 32
    (p < inc → t.triggerPhase = 0 ∧ t.triggerPhaseIncrement = 0) ∧
    (inc ≤ p → t.triggerPhase.toNat = p ∧ t.triggerPhaseIncrement = s.triggerPhaseIncrement)

/-- REFRESH neither reads nor writes `gate`. From the prose of 42_pitch_pipeline R125. -/
def Obligations.RefreshIgnoresGate : Prop :=
  ∀ (s t : State) (g : Bool), exec .refresh s = .next t →
    t.gate = s.gate ∧ exec .refresh { s with gate := g } = .next { t with gate := g }

/-! ## LFO and auxiliary channels -/

/-- REFRESH advances the oscillator by the rate ROM's entry below rate 100, else by the synchronized increment, wrapping
at 2^32. -/
def Obligations.RefreshAdvancesLfo : Prop :=
  ∀ s t : State, exec .refresh s = .next t →
    (∀ h : s.modulationRate.toNat < 100,
      t.lfoPhase.toNat = (s.lfoPhase.toNat + s.rom.lfoInc[s.modulationRate.toNat].toNat) % 2 ^ 32) ∧
    (100 ≤ s.modulationRate.toNat →
      t.lfoPhase.toNat = (s.lfoPhase.toNat + s.lfoPllPhaseIncrement.toNat) % 2 ^ 32)

/-- The oscillator runs free: after `k` ticks at a constant increment its phase is `k` increments further, modulo
2^32. The spec's own inference (43_lfo R141), from any state. -/
def Obligations.LfoRunsFree : Prop :=
  ∀ (s : State) (k : Nat), ∃ t, ticks k s = .next t ∧
    t.lfoPhase.toNat = (s.lfoPhase.toNat + k * (lfoIncrement s).toNat) % 2 ^ 32

/-- The waveform is a symmetric triangle over the full signed 16-bit range, without jumps. Range, symmetry and
continuity are the spec's own inferences (43_lfo R142). -/
def Obligations.LfoWaveIsTriangle : Prop :=
  ∀ p : Phase,
    (p.toNat < 2 ^ 31 → lfoWave p = -32768 + (p.toNat / 2 ^ 15 : Nat)) ∧
    (2 ^ 31 ≤ p.toNat → lfoWave p = 98303 - (p.toNat / 2 ^ 15 : Nat)) ∧
    -32768 ≤ lfoWave p ∧ lfoWave p ≤ 32767 ∧
    lfoWave (BitVec.ofNat 32 (2 ^ 32 - 1 - p.toNat)) = lfoWave p ∧
    |lfoWave (p + 1) - lfoWave p| ≤ 1 ∧
    lfoWave 0 = -32768 ∧ lfoWave 0x40000000 = 0 ∧ lfoWave 0x7FFFFFFF = 32767 ∧ lfoWave 0x80000000 = 32767 ∧
    lfoWave 0xC0000000 = -1 ∧ lfoWave 0xFFFFFFFF = -32768

/-- RD_AUX responds the channel, which is the port OUT_AUX, and writes nothing. -/
def Obligations.RdAuxResponds : Prop :=
  (encode (.rdAux 4) = 0xB000000004 ∧
    ∀ w : CmdWord, w.toNat / 2 ^ 36 = 11 → decodeWord w = .rdAux (BitVec.ofNat 3 w.toNat)) ∧
  (∀ (rc : Bool) (s : State), ∃ t u, exec (.init rc) s = .next t ∧ exec .refresh t = .next u ∧
    exec (.rdAux 4) u = .next { u with rsp := some 32768 }) ∧
  ∀ (ch : BitVec 3) (s : State), exec (.rdAux ch) s = .next { s with rsp := some (s.aux[ch.toNat]'ch.isLt) } ∧
    s.outputs.outAux = s.aux

/-! ## Trigger and envelope -/

/-- The trigger output code: the zero-volt entry up to one increment past zero, else the scaled shape value between the
two calibrated codes; a shape value that is not negative never leaves the span of the two codes. -/
def Obligations.TrigCodeValue : Prop :=
  ∀ (s : State) (value : Int),
    (s.triggerShape = 0 → value = 32767) →
    (s.triggerShape = 1 → value = 32767 - (s.triggerPhase.toNat / 2 ^ 17 : Nat)) →
    (∀ k i, (hk : k < 4) → (hi : i + 1 < 257) → 2 ≤ s.triggerShape.toNat →
      k = min (s.triggerShape.toNat - 2) 3 → i = s.triggerPhase.toNat / 2 ^ 24 →
      value = s.rom.trigWave[k][i].toInt + (s.rom.trigWave[k][i + 1].toInt - s.rom.trigWave[k][i].toInt) *
        (s.triggerPhase.toNat / 2 ^ 8 % 2 ^ 16 : Nat) / 2 ^ 16) →
    shapeValue s = value ∧
    let zero : Int := s.cal[3].toNat
    let top : Int := s.cal[8].toNat
    let coeff : Int := if s.triggerScale = true then s.modVelocity.toNat * 2 ^ 8 else 32768
    (s.triggerPhase.toNat ≤ s.triggerPhaseIncrement.toNat → trigCode s = s.cal[3]) ∧
    (s.triggerPhaseIncrement.toNat < s.triggerPhase.toNat →
      trigCode s = BitVec.ofInt 16 (zero + (top - zero) * (value * coeff / 2 ^ 15) / 2 ^ 15) ∧
      (0 ≤ value → min zero top ≤ (trigCode s).toNat ∧ ((trigCode s).toNat : Int) ≤ max zero top))

/-- RD_TRIG responds the output function of the state at that moment, which is the port OUT_TRIG, and writes nothing. -/
def Obligations.RdTrigResponds : Prop :=
  (encode .rdTrig = 0xA000000000 ∧ ∀ w : CmdWord, w.toNat / 2 ^ 36 = 10 → decodeWord w = .rdTrig) ∧
  (∀ s : State, ∃ t, exec (.init true) s = .next t ∧ exec .rdTrig t = .next { t with rsp := some 39187 }) ∧
  ∀ s : State, exec .rdTrig s = .next { s with rsp := some (trigCode s) } ∧ s.outputs.outTrig = trigCode s

/-- The trigger output depends on nothing but the phase pair, shape, scale, velocity, two calibration entries and the
curve ROM: not on the gate or the countdowns. From the prose of 44_trigger R160. -/
def Obligations.TrigCodeDependsOnlyOn : Prop :=
  ∀ s s' : State, s.triggerPhase = s'.triggerPhase → s.triggerPhaseIncrement = s'.triggerPhaseIncrement →
    s.triggerShape = s'.triggerShape → s.triggerScale = s'.triggerScale → s.modVelocity = s'.modVelocity →
    s.cal[3] = s'.cal[3] → s.cal[8] = s'.cal[8] → s.rom.trigWave = s'.rom.trigWave → trigCode s = trigCode s'

/-- RD_STATUS responds gate, TRIG_OUT and GATE_OUT in bits 2, 1 and 0, the other bits zero, and writes nothing. -/
def Obligations.RdStatusResponds : Prop :=
  (encode .rdStatus = 0xC000000000 ∧ ∀ w : CmdWord, w.toNat / 2 ^ 36 = 12 → decodeWord w = .rdStatus) ∧
  (∀ (rc : Bool) (s : State), ∃ t u, exec (.init rc) s = .next t ∧ exec (.noteOn 7680 100 0 true) t = .next u ∧
    exec .rdStatus u = .next { u with rsp := some 7 }) ∧
  ∀ s : State, exec .rdStatus s = .next { s with
    rsp := some (BitVec.ofNat 16 (4 * (if s.gate = true then 1 else 0) + 2 * (if s.triggerPulse ≠ 0 then 1 else 0) +
      (if s.gate = true ∧ s.retriggerDelay = 0 then 1 else 0))) } ∧
    (s.outputs.gateLevel = true ↔ s.gate = true ∧ s.retriggerDelay = 0) ∧
    (s.outputs.trigLevel = true ↔ s.triggerPulse ≠ 0)

/-- The trigger pulse lasts exactly eight ticks for each unit of duration, whether or not the note is released at
once. The spec's own inference (44_trigger R159 a, R166 d). -/
def Obligations.PulseWidthIsExact : Prop :=
  ∀ (note : Pitch) (velocity amount : BitVec 7) (s : State) (released : Bool) (k : Nat),
    ∃ t u v, exec (.noteOn note velocity amount true) s = .next t ∧
      exec (if released = true then .noteOff else .nop) t = .next u ∧ ticks k u = .next v ∧
      v.triggerPulse.toNat = 8 * s.triggerDuration.toNat - k ∧
      (v.outputs.trigLevel = true ↔ k < 8 * s.triggerDuration.toNat)

/-- How long an envelope takes: as the glide, and the output is the zero-volt code once it is over; with a zero
increment it never starts and the output stays at the zero-volt code. The spec's own inferences (44_trigger R159 b,
R163). -/
def Obligations.EnvelopeDuration : Prop :=
  ∀ s : State, s.triggerPhase = 0 →
    ∀ k : Nat, ∃ t, ticks k s = .next t ∧
      (k * s.triggerPhaseIncrement.toNat < 2 ^ 32 →
        t.triggerPhase.toNat = k * s.triggerPhaseIncrement.toNat ∧
        t.triggerPhaseIncrement = s.triggerPhaseIncrement) ∧
      (2 ^ 32 ≤ k * s.triggerPhaseIncrement.toNat →
        t.triggerPhase = 0 ∧ t.triggerPhaseIncrement = 0 ∧ t.outputs.outTrig = s.cal[3]) ∧
      (s.triggerPhaseIncrement = 0 → t.outputs.outTrig = s.cal[3])

/-- A trigger on a gated voice drops the gate output at once and raises it again with the second tick. The spec's own
inference (44_trigger R159 c, R166 b). -/
def Obligations.RetriggerGapIsTwoTicks : Prop :=
  ∀ (note : Pitch) (velocity amount : BitVec 7) (s : State) (k : Nat), s.gate = true →
    ∃ t u, exec (.noteOn note velocity amount true) s = .next t ∧ ticks k t = .next u ∧
      (u.outputs.gateLevel = true ↔ 2 ≤ k)

/-! ## Events, configuration, system -/

/-- NOTE_OFF clears `gate` and nothing else; GATE_OUT falls at once. -/
def Obligations.NoteOffClearsGateOnly : Prop :=
  (encodeCanonical .noteOff = 0x4000000000 ∧ ∀ w : CmdWord, w.toNat / 2 ^ 36 = 4 → decodeWord w = .noteOff) ∧
  ∀ s : State, exec .noteOff s = .next { s with gate := false, rsp := none } ∧
    ({ s with gate := false, rsp := none } : State).outputs.gateLevel = false

/-- CONTROL_CHANGE maps three controllers to three elements and ignores all others. -/
def Obligations.ControlChangeResult : Prop :=
  (encode (.controlChange 2 64) = 0x5000000240 ∧ ∀ w : CmdWord, w.toNat / 2 ^ 36 = 5 →
    decodeWord w = .controlChange (BitVec.ofNat 7 (w.toNat / 2 ^ 8)) (BitVec.ofNat 7 w.toNat)) ∧
  ∀ (controller value : BitVec 7) (s : State),
    exec (.controlChange controller value) s = .next { s with
      modWheel := if controller.toNat = 1 then value else s.modWheel
      aux := if controller.toNat = 2 then s.aux.set 2 (BitVec.ofNat 16 (value.toNat * 2 ^ 9))
        else if controller.toNat = 4 then s.aux.set 3 (BitVec.ofNat 16 (value.toNat * 2 ^ 9)) else s.aux
      rsp := none }

/-- PITCH_BEND writes the bend register and nothing else; the worked bend term of one step short of full upward, and
that of the centre. -/
def Obligations.PitchBendResult : Prop :=
  (encode (.pitchBend 16383) = 0x6000003FFF ∧
    ∀ w : CmdWord, w.toNat / 2 ^ 36 = 6 → decodeWord w = .pitchBend (BitVec.ofNat 14 w.toNat)) ∧
  ∀ (bend : BitVec 14) (s : State), exec (.pitchBend bend) s = .next { s with modPitchBend := bend, rsp := none } ∧
    bendTerm { s with modPitchBend := 16383, pitchBendRange := 2 } = 255 ∧ bendTerm { s with modPitchBend := 8192 } = 0

/-- CFG_WRITE keeps the low bits of `data` that each register has; registers 8 to 15 do not exist. Only registers 6 and
7 can change an output port at once, and only OUT_TRIG. -/
def Obligations.CfgWriteResult : Prop :=
  (encode (.cfgWrite 3 0xFFFFFF80) = 0x73FFFFFF80 ∧ encodeCanonical (.cfgWrite 3 0xFFFFFF80) = 0x730000FF80 ∧
    ∀ w : CmdWord, w.toNat / 2 ^ 36 = 7 →
    decodeWord w = .cfgWrite (BitVec.ofNat 4 (w.toNat / 2 ^ 32)) (BitVec.ofNat 32 w.toNat)) ∧
  ∀ (data : BitVec 32) (s : State),
    exec (.cfgWrite 0 data) s = .next { s with modulationRate := BitVec.ofNat 7 data.toNat, rsp := none } ∧
    exec (.cfgWrite 1 data) s = .next { s with pitchBendRange := BitVec.ofNat 8 data.toNat, rsp := none } ∧
    exec (.cfgWrite 2 data) s = .next { s with vibratoRange := BitVec.ofNat 8 data.toNat, rsp := none } ∧
    exec (.cfgWrite 3 data) s = .next { s with tuning := BitVec.ofNat 16 data.toNat, rsp := none } ∧
    exec (.cfgWrite 4 data) s = .next { s with lfoPllPhaseIncrement := data, rsp := none } ∧
    exec (.cfgWrite 5 data) s = .next { s with triggerDuration := BitVec.ofNat 7 data.toNat, rsp := none } ∧
    exec (.cfgWrite 6 data) s = .next { s with triggerShape := BitVec.ofNat 3 data.toNat, rsp := none } ∧
    exec (.cfgWrite 7 data) s = .next { s with triggerScale := decide (data.toNat % 2 = 1), rsp := none } ∧
    (∀ reg : BitVec 4, 8 ≤ reg.toNat → exec (.cfgWrite reg data) s = .next { s with rsp := none }) ∧
    ∀ reg : BitVec 4, ∃ t, exec (.cfgWrite reg data) s = .next t ∧
      (reg.toNat ≤ 5 → t.outputs = s.outputs) ∧ t.outputs = { s.outputs with outTrig := trigCode t }

/-- NOP and the reserved opcodes are accepted, change no state and give no response; in the syntax the reserved opcodes
are not NOP. -/
def Obligations.NopAndReservedChangeNothing : Prop :=
  (encodeCanonical .nop = 0 ∧ ∀ w : CmdWord, w.toNat / 2 ^ 36 = 0 → decodeWord w = .nop) ∧
  (∀ w : CmdWord, w.toNat / 2 ^ 36 = 14 → decodeWord w = .reservedE) ∧
  (∀ w : CmdWord, w.toNat / 2 ^ 36 = 15 → decodeWord w = .reservedF) ∧
  Instr.reservedE ≠ .nop ∧ Instr.reservedF ≠ .nop ∧
  ∀ s : State, exec .nop s = .next { s with rsp := none } ∧ exec .reservedE s = .next { s with rsp := none } ∧
    exec .reservedF s = .next { s with rsp := none }

/-! ## Who writes what -/

/-- Exactly the five read commands respond, and they change nothing but the response. From 30_encoding R82; the
response as a field of the state is the model's own (log 3). -/
def Obligations.OnlyReadsRespond : Prop :=
  ∀ (i : Instr) (s t : State), exec i s = .next t →
    (t.rsp.isSome = true ↔ 9 ≤ i.opc.toNat ∧ i.opc.toNat ≤ 13) ∧
    (9 ≤ i.opc.toNat → i.opc.toNat ≤ 13 → t = { s with rsp := t.rsp } ∧ t.outputs = s.outputs)

/-- `gate` is set by NOTE_ON, cleared by NOTE_OFF and INIT, and left alone by every other command. -/
def Obligations.GateWriters : Prop :=
  ∀ (i : Instr) (s t : State), exec i s = .next t →
    (t.gate = true ↔ (∃ note velocity amount trigger, i = .noteOn note velocity amount trigger) ∨
      (s.gate = true ∧ i ≠ .noteOff ∧ ∀ rc, i ≠ .init rc))

/-- `dirty` is set by a CAL_WRITE that writes an entry, cleared by REFRESH and INIT, and left alone by every other
command. -/
def Obligations.DirtyWriters : Prop :=
  ∀ (i : Instr) (s t : State), exec i s = .next t →
    (t.dirty = true ↔ (∃ idx code, i = .calWrite idx code ∧ idx.toNat ≤ 10) ∨
      (s.dirty = true ∧ i ≠ .refresh ∧ ∀ rc, i ≠ .init rc))

/-- A calibration entry changes only by a CAL_WRITE of its index or by INIT with `rc = 1`. -/
def Obligations.CalibrationWriters : Prop :=
  ∀ (i : Instr) (s t : State), exec i s = .next t →
    ∀ j, (h : j < 11) → t.cal[j] ≠ s.cal[j] → (∃ idx code, i = .calWrite idx code ∧ idx.toNat = j) ∨ i = .init true

/-- No event command touches the oscillator: only REFRESH and INIT write its phase. -/
def Obligations.LfoPhaseWriters : Prop :=
  ∀ (i : Instr) (s t : State), exec i s = .next t → i ≠ .refresh → (∀ rc, i ≠ .init rc) → t.lfoPhase = s.lfoPhase

/-- The ROMs never change, whatever step is taken, and a step takes one event from the host's stream. The ROMs and
the stream as fields are the model's own (logs 1 and 2). -/
def Obligations.RomsNeverChange : Prop :=
  ∀ s t : State, step s = .next t → t.rom = s.rom ∧ t.hostStream = s.hostStream.tail

/-! ## Whole machine -/

/-- Every step keeps a good state good. The invariant gathers what the spec infers or says of reachable states (see
`GoodState`). -/
def Obligations.StepKeepsGoodState : Prop :=
  ∀ s t : State, GoodState s → step s = .next t → GoodState t

/-- The reset state is good. -/
def Obligations.ResetIsGood : Prop := GoodState State.reset

/-- The voices of a converter are independent: a step of one is a step of that voice and leaves the others unchanged.
From 60_exceptions R207; that a step picks the voice by an argument is the model's choice (log 14). -/
def Obligations.VoicesAreIndependent : Prop :=
  ∀ (c : Converter) (i : Fin 8), ∃ c', Converter.stepVoice i c = .next c' ∧ step c.voices[i] = .next c'.voices[i] ∧
    ∀ j : Fin 8, j ≠ i → c'.voices[j] = c.voices[j]

/-- The operands of a command, written out as integers, make the command again. The operand list is the model's form
of 30_encoding R84 (logs 13 and 15). -/
def Obligations.OperandsMakeCommand : Prop :=
  ∀ i : Instr, RawCommand.toInstr? i.raw = some i
end

