-- ==== Sys2Proof/Laws/State.lean ====
section
/-! SUPPORT. What each update of the state does to each field, so that no later proof unfolds a record update. -/

namespace Sys2Proof.Machine

/-- The composed pitch of a REFRESH in this state (42_pitch_pipeline R126): what `refreshState` publishes. -/
def composedPitch (s : State) : Int :=
  (glideStep s).notePortamento.toInt + bendTerm s + s.tuning.toInt + vibratoTerm (lfoWave (s.lfoPhase + lfoIncrement s)) s


/-! `glideArm`, field by field. -/

@[simp] theorem glideArm_currentNote (note : Pitch) (amount : BitVec 7) (s : State) :
    (glideArm note amount s).currentNote = s.currentNote := rfl

@[simp] theorem glideArm_noteSource (note : Pitch) (amount : BitVec 7) (s : State) :
    (glideArm note amount s).noteSource = armedSource note amount s := rfl

@[simp] theorem glideArm_noteTarget (note : Pitch) (amount : BitVec 7) (s : State) :
    (glideArm note amount s).noteTarget = note := rfl

@[simp] theorem glideArm_notePortamento (note : Pitch) (amount : BitVec 7) (s : State) :
    (glideArm note amount s).notePortamento = s.notePortamento := rfl

@[simp] theorem glideArm_gate (note : Pitch) (amount : BitVec 7) (s : State) :
    (glideArm note amount s).gate = s.gate := rfl

@[simp] theorem glideArm_portamentoPhase (note : Pitch) (amount : BitVec 7) (s : State) :
    (glideArm note amount s).portamentoPhase = 0 := rfl

@[simp] theorem glideArm_portamentoPhaseIncrement (note : Pitch) (amount : BitVec 7) (s : State) :
    (glideArm note amount s).portamentoPhaseIncrement = armedIncrement note amount s := rfl

@[simp] theorem glideArm_portamentoExponentialShape (note : Pitch) (amount : BitVec 7) (s : State) :
    (glideArm note amount s).portamentoExponentialShape = decide (clampedAmount amount ≤ Config.portSplit) := rfl

@[simp] theorem glideArm_lfoPhase (note : Pitch) (amount : BitVec 7) (s : State) :
    (glideArm note amount s).lfoPhase = s.lfoPhase := rfl

@[simp] theorem glideArm_lfoPllPhaseIncrement (note : Pitch) (amount : BitVec 7) (s : State) :
    (glideArm note amount s).lfoPllPhaseIncrement = s.lfoPllPhaseIncrement := rfl

@[simp] theorem glideArm_modulationRate (note : Pitch) (amount : BitVec 7) (s : State) :
    (glideArm note amount s).modulationRate = s.modulationRate := rfl

@[simp] theorem glideArm_pitchBendRange (note : Pitch) (amount : BitVec 7) (s : State) :
    (glideArm note amount s).pitchBendRange = s.pitchBendRange := rfl

@[simp] theorem glideArm_vibratoRange (note : Pitch) (amount : BitVec 7) (s : State) :
    (glideArm note amount s).vibratoRange = s.vibratoRange := rfl

@[simp] theorem glideArm_tuning (note : Pitch) (amount : BitVec 7) (s : State) :
    (glideArm note amount s).tuning = s.tuning := rfl

@[simp] theorem glideArm_triggerDuration (note : Pitch) (amount : BitVec 7) (s : State) :
    (glideArm note amount s).triggerDuration = s.triggerDuration := rfl

@[simp] theorem glideArm_triggerShape (note : Pitch) (amount : BitVec 7) (s : State) :
    (glideArm note amount s).triggerShape = s.triggerShape := rfl

@[simp] theorem glideArm_triggerScale (note : Pitch) (amount : BitVec 7) (s : State) :
    (glideArm note amount s).triggerScale = s.triggerScale := rfl

@[simp] theorem glideArm_modVelocity (note : Pitch) (amount : BitVec 7) (s : State) :
    (glideArm note amount s).modVelocity = s.modVelocity := rfl

@[simp] theorem glideArm_modWheel (note : Pitch) (amount : BitVec 7) (s : State) :
    (glideArm note amount s).modWheel = s.modWheel := rfl

@[simp] theorem glideArm_modPitchBend (note : Pitch) (amount : BitVec 7) (s : State) :
    (glideArm note amount s).modPitchBend = s.modPitchBend := rfl

@[simp] theorem glideArm_aux (note : Pitch) (amount : BitVec 7) (s : State) :
    (glideArm note amount s).aux = s.aux := rfl

@[simp] theorem glideArm_retriggerDelay (note : Pitch) (amount : BitVec 7) (s : State) :
    (glideArm note amount s).retriggerDelay = s.retriggerDelay := rfl

@[simp] theorem glideArm_triggerPulse (note : Pitch) (amount : BitVec 7) (s : State) :
    (glideArm note amount s).triggerPulse = s.triggerPulse := rfl

@[simp] theorem glideArm_triggerPhase (note : Pitch) (amount : BitVec 7) (s : State) :
    (glideArm note amount s).triggerPhase = s.triggerPhase := rfl

@[simp] theorem glideArm_triggerPhaseIncrement (note : Pitch) (amount : BitVec 7) (s : State) :
    (glideArm note amount s).triggerPhaseIncrement = s.triggerPhaseIncrement := rfl

@[simp] theorem glideArm_cal (note : Pitch) (amount : BitVec 7) (s : State) :
    (glideArm note amount s).cal = s.cal := rfl

@[simp] theorem glideArm_dirty (note : Pitch) (amount : BitVec 7) (s : State) :
    (glideArm note amount s).dirty = s.dirty := rfl

@[simp] theorem glideArm_noteDacCode (note : Pitch) (amount : BitVec 7) (s : State) :
    (glideArm note amount s).noteDacCode = s.noteDacCode := rfl

@[simp] theorem glideArm_rom (note : Pitch) (amount : BitVec 7) (s : State) :
    (glideArm note amount s).rom = s.rom := rfl

@[simp] theorem glideArm_hostStream (note : Pitch) (amount : BitVec 7) (s : State) :
    (glideArm note amount s).hostStream = s.hostStream := rfl

@[simp] theorem glideArm_rsp (note : Pitch) (amount : BitVec 7) (s : State) :
    (glideArm note amount s).rsp = s.rsp := rfl


/-! `glideAdvance`, field by field. -/

@[simp] theorem glideAdvance_currentNote (s : State) :
    (glideAdvance s).currentNote = s.currentNote := rfl

@[simp] theorem glideAdvance_noteSource (s : State) :
    (glideAdvance s).noteSource = if rampCompletes s.portamentoPhase s.portamentoPhaseIncrement then s.noteTarget else s.noteSource := rfl

@[simp] theorem glideAdvance_noteTarget (s : State) :
    (glideAdvance s).noteTarget = s.noteTarget := rfl

@[simp] theorem glideAdvance_notePortamento (s : State) :
    (glideAdvance s).notePortamento = s.notePortamento := rfl

@[simp] theorem glideAdvance_gate (s : State) :
    (glideAdvance s).gate = s.gate := rfl

@[simp] theorem glideAdvance_portamentoPhase (s : State) :
    (glideAdvance s).portamentoPhase = rampPhase s.portamentoPhase s.portamentoPhaseIncrement := rfl

@[simp] theorem glideAdvance_portamentoPhaseIncrement (s : State) :
    (glideAdvance s).portamentoPhaseIncrement = rampIncrement s.portamentoPhase s.portamentoPhaseIncrement := rfl

@[simp] theorem glideAdvance_portamentoExponentialShape (s : State) :
    (glideAdvance s).portamentoExponentialShape = s.portamentoExponentialShape := rfl

@[simp] theorem glideAdvance_lfoPhase (s : State) :
    (glideAdvance s).lfoPhase = s.lfoPhase := rfl

@[simp] theorem glideAdvance_lfoPllPhaseIncrement (s : State) :
    (glideAdvance s).lfoPllPhaseIncrement = s.lfoPllPhaseIncrement := rfl

@[simp] theorem glideAdvance_modulationRate (s : State) :
    (glideAdvance s).modulationRate = s.modulationRate := rfl

@[simp] theorem glideAdvance_pitchBendRange (s : State) :
    (glideAdvance s).pitchBendRange = s.pitchBendRange := rfl

@[simp] theorem glideAdvance_vibratoRange (s : State) :
    (glideAdvance s).vibratoRange = s.vibratoRange := rfl

@[simp] theorem glideAdvance_tuning (s : State) :
    (glideAdvance s).tuning = s.tuning := rfl

@[simp] theorem glideAdvance_triggerDuration (s : State) :
    (glideAdvance s).triggerDuration = s.triggerDuration := rfl

@[simp] theorem glideAdvance_triggerShape (s : State) :
    (glideAdvance s).triggerShape = s.triggerShape := rfl

@[simp] theorem glideAdvance_triggerScale (s : State) :
    (glideAdvance s).triggerScale = s.triggerScale := rfl

@[simp] theorem glideAdvance_modVelocity (s : State) :
    (glideAdvance s).modVelocity = s.modVelocity := rfl

@[simp] theorem glideAdvance_modWheel (s : State) :
    (glideAdvance s).modWheel = s.modWheel := rfl

@[simp] theorem glideAdvance_modPitchBend (s : State) :
    (glideAdvance s).modPitchBend = s.modPitchBend := rfl

@[simp] theorem glideAdvance_aux (s : State) :
    (glideAdvance s).aux = s.aux := rfl

@[simp] theorem glideAdvance_retriggerDelay (s : State) :
    (glideAdvance s).retriggerDelay = s.retriggerDelay := rfl

@[simp] theorem glideAdvance_triggerPulse (s : State) :
    (glideAdvance s).triggerPulse = s.triggerPulse := rfl

@[simp] theorem glideAdvance_triggerPhase (s : State) :
    (glideAdvance s).triggerPhase = s.triggerPhase := rfl

@[simp] theorem glideAdvance_triggerPhaseIncrement (s : State) :
    (glideAdvance s).triggerPhaseIncrement = s.triggerPhaseIncrement := rfl

@[simp] theorem glideAdvance_cal (s : State) :
    (glideAdvance s).cal = s.cal := rfl

@[simp] theorem glideAdvance_dirty (s : State) :
    (glideAdvance s).dirty = s.dirty := rfl

@[simp] theorem glideAdvance_noteDacCode (s : State) :
    (glideAdvance s).noteDacCode = s.noteDacCode := rfl

@[simp] theorem glideAdvance_rom (s : State) :
    (glideAdvance s).rom = s.rom := rfl

@[simp] theorem glideAdvance_hostStream (s : State) :
    (glideAdvance s).hostStream = s.hostStream := rfl

@[simp] theorem glideAdvance_rsp (s : State) :
    (glideAdvance s).rsp = s.rsp := rfl


/-! `glideStep`, field by field. -/

@[simp] theorem glideStep_currentNote (s : State) :
    (glideStep s).currentNote = s.currentNote := rfl

@[simp] theorem glideStep_noteSource (s : State) :
    (glideStep s).noteSource = if rampCompletes s.portamentoPhase s.portamentoPhaseIncrement then s.noteTarget else s.noteSource := rfl

@[simp] theorem glideStep_noteTarget (s : State) :
    (glideStep s).noteTarget = s.noteTarget := rfl

@[simp] theorem glideStep_notePortamento (s : State) :
    (glideStep s).notePortamento = BitVec.ofInt 16 (glidePitch (glideAdvance s)) := rfl

@[simp] theorem glideStep_gate (s : State) :
    (glideStep s).gate = s.gate := rfl

@[simp] theorem glideStep_portamentoPhase (s : State) :
    (glideStep s).portamentoPhase = rampPhase s.portamentoPhase s.portamentoPhaseIncrement := rfl

@[simp] theorem glideStep_portamentoPhaseIncrement (s : State) :
    (glideStep s).portamentoPhaseIncrement = rampIncrement s.portamentoPhase s.portamentoPhaseIncrement := rfl

@[simp] theorem glideStep_portamentoExponentialShape (s : State) :
    (glideStep s).portamentoExponentialShape = s.portamentoExponentialShape := rfl

@[simp] theorem glideStep_lfoPhase (s : State) :
    (glideStep s).lfoPhase = s.lfoPhase := rfl

@[simp] theorem glideStep_lfoPllPhaseIncrement (s : State) :
    (glideStep s).lfoPllPhaseIncrement = s.lfoPllPhaseIncrement := rfl

@[simp] theorem glideStep_modulationRate (s : State) :
    (glideStep s).modulationRate = s.modulationRate := rfl

@[simp] theorem glideStep_pitchBendRange (s : State) :
    (glideStep s).pitchBendRange = s.pitchBendRange := rfl

@[simp] theorem glideStep_vibratoRange (s : State) :
    (glideStep s).vibratoRange = s.vibratoRange := rfl

@[simp] theorem glideStep_tuning (s : State) :
    (glideStep s).tuning = s.tuning := rfl

@[simp] theorem glideStep_triggerDuration (s : State) :
    (glideStep s).triggerDuration = s.triggerDuration := rfl

@[simp] theorem glideStep_triggerShape (s : State) :
    (glideStep s).triggerShape = s.triggerShape := rfl

@[simp] theorem glideStep_triggerScale (s : State) :
    (glideStep s).triggerScale = s.triggerScale := rfl

@[simp] theorem glideStep_modVelocity (s : State) :
    (glideStep s).modVelocity = s.modVelocity := rfl

@[simp] theorem glideStep_modWheel (s : State) :
    (glideStep s).modWheel = s.modWheel := rfl

@[simp] theorem glideStep_modPitchBend (s : State) :
    (glideStep s).modPitchBend = s.modPitchBend := rfl

@[simp] theorem glideStep_aux (s : State) :
    (glideStep s).aux = s.aux := rfl

@[simp] theorem glideStep_retriggerDelay (s : State) :
    (glideStep s).retriggerDelay = s.retriggerDelay := rfl

@[simp] theorem glideStep_triggerPulse (s : State) :
    (glideStep s).triggerPulse = s.triggerPulse := rfl

@[simp] theorem glideStep_triggerPhase (s : State) :
    (glideStep s).triggerPhase = s.triggerPhase := rfl

@[simp] theorem glideStep_triggerPhaseIncrement (s : State) :
    (glideStep s).triggerPhaseIncrement = s.triggerPhaseIncrement := rfl

@[simp] theorem glideStep_cal (s : State) :
    (glideStep s).cal = s.cal := rfl

@[simp] theorem glideStep_dirty (s : State) :
    (glideStep s).dirty = s.dirty := rfl

@[simp] theorem glideStep_noteDacCode (s : State) :
    (glideStep s).noteDacCode = s.noteDacCode := rfl

@[simp] theorem glideStep_rom (s : State) :
    (glideStep s).rom = s.rom := rfl

@[simp] theorem glideStep_hostStream (s : State) :
    (glideStep s).hostStream = s.hostStream := rfl

@[simp] theorem glideStep_rsp (s : State) :
    (glideStep s).rsp = s.rsp := rfl


/-! `lfoStep`, field by field. -/

@[simp] theorem lfoStep_currentNote (s : State) :
    (lfoStep s).currentNote = s.currentNote := rfl

@[simp] theorem lfoStep_noteSource (s : State) :
    (lfoStep s).noteSource = s.noteSource := rfl

@[simp] theorem lfoStep_noteTarget (s : State) :
    (lfoStep s).noteTarget = s.noteTarget := rfl

@[simp] theorem lfoStep_notePortamento (s : State) :
    (lfoStep s).notePortamento = s.notePortamento := rfl

@[simp] theorem lfoStep_gate (s : State) :
    (lfoStep s).gate = s.gate := rfl

@[simp] theorem lfoStep_portamentoPhase (s : State) :
    (lfoStep s).portamentoPhase = s.portamentoPhase := rfl

@[simp] theorem lfoStep_portamentoPhaseIncrement (s : State) :
    (lfoStep s).portamentoPhaseIncrement = s.portamentoPhaseIncrement := rfl

@[simp] theorem lfoStep_portamentoExponentialShape (s : State) :
    (lfoStep s).portamentoExponentialShape = s.portamentoExponentialShape := rfl

@[simp] theorem lfoStep_lfoPhase (s : State) :
    (lfoStep s).lfoPhase = s.lfoPhase + lfoIncrement s := rfl

@[simp] theorem lfoStep_lfoPllPhaseIncrement (s : State) :
    (lfoStep s).lfoPllPhaseIncrement = s.lfoPllPhaseIncrement := rfl

@[simp] theorem lfoStep_modulationRate (s : State) :
    (lfoStep s).modulationRate = s.modulationRate := rfl

@[simp] theorem lfoStep_pitchBendRange (s : State) :
    (lfoStep s).pitchBendRange = s.pitchBendRange := rfl

@[simp] theorem lfoStep_vibratoRange (s : State) :
    (lfoStep s).vibratoRange = s.vibratoRange := rfl

@[simp] theorem lfoStep_tuning (s : State) :
    (lfoStep s).tuning = s.tuning := rfl

@[simp] theorem lfoStep_triggerDuration (s : State) :
    (lfoStep s).triggerDuration = s.triggerDuration := rfl

@[simp] theorem lfoStep_triggerShape (s : State) :
    (lfoStep s).triggerShape = s.triggerShape := rfl

@[simp] theorem lfoStep_triggerScale (s : State) :
    (lfoStep s).triggerScale = s.triggerScale := rfl

@[simp] theorem lfoStep_modVelocity (s : State) :
    (lfoStep s).modVelocity = s.modVelocity := rfl

@[simp] theorem lfoStep_modWheel (s : State) :
    (lfoStep s).modWheel = s.modWheel := rfl

@[simp] theorem lfoStep_modPitchBend (s : State) :
    (lfoStep s).modPitchBend = s.modPitchBend := rfl

@[simp] theorem lfoStep_aux (s : State) :
    (lfoStep s).aux = s.aux := rfl

@[simp] theorem lfoStep_retriggerDelay (s : State) :
    (lfoStep s).retriggerDelay = s.retriggerDelay := rfl

@[simp] theorem lfoStep_triggerPulse (s : State) :
    (lfoStep s).triggerPulse = s.triggerPulse := rfl

@[simp] theorem lfoStep_triggerPhase (s : State) :
    (lfoStep s).triggerPhase = s.triggerPhase := rfl

@[simp] theorem lfoStep_triggerPhaseIncrement (s : State) :
    (lfoStep s).triggerPhaseIncrement = s.triggerPhaseIncrement := rfl

@[simp] theorem lfoStep_cal (s : State) :
    (lfoStep s).cal = s.cal := rfl

@[simp] theorem lfoStep_dirty (s : State) :
    (lfoStep s).dirty = s.dirty := rfl

@[simp] theorem lfoStep_noteDacCode (s : State) :
    (lfoStep s).noteDacCode = s.noteDacCode := rfl

@[simp] theorem lfoStep_rom (s : State) :
    (lfoStep s).rom = s.rom := rfl

@[simp] theorem lfoStep_hostStream (s : State) :
    (lfoStep s).hostStream = s.hostStream := rfl

@[simp] theorem lfoStep_rsp (s : State) :
    (lfoStep s).rsp = s.rsp := rfl


/-! `auxUpdate`, field by field. -/

@[simp] theorem auxUpdate_currentNote (lfo : Int) (s : State) :
    (auxUpdate lfo s).currentNote = s.currentNote := rfl

@[simp] theorem auxUpdate_noteSource (lfo : Int) (s : State) :
    (auxUpdate lfo s).noteSource = s.noteSource := rfl

@[simp] theorem auxUpdate_noteTarget (lfo : Int) (s : State) :
    (auxUpdate lfo s).noteTarget = s.noteTarget := rfl

@[simp] theorem auxUpdate_notePortamento (lfo : Int) (s : State) :
    (auxUpdate lfo s).notePortamento = s.notePortamento := rfl

@[simp] theorem auxUpdate_gate (lfo : Int) (s : State) :
    (auxUpdate lfo s).gate = s.gate := rfl

@[simp] theorem auxUpdate_portamentoPhase (lfo : Int) (s : State) :
    (auxUpdate lfo s).portamentoPhase = s.portamentoPhase := rfl

@[simp] theorem auxUpdate_portamentoPhaseIncrement (lfo : Int) (s : State) :
    (auxUpdate lfo s).portamentoPhaseIncrement = s.portamentoPhaseIncrement := rfl

@[simp] theorem auxUpdate_portamentoExponentialShape (lfo : Int) (s : State) :
    (auxUpdate lfo s).portamentoExponentialShape = s.portamentoExponentialShape := rfl

@[simp] theorem auxUpdate_lfoPhase (lfo : Int) (s : State) :
    (auxUpdate lfo s).lfoPhase = s.lfoPhase := rfl

@[simp] theorem auxUpdate_lfoPllPhaseIncrement (lfo : Int) (s : State) :
    (auxUpdate lfo s).lfoPllPhaseIncrement = s.lfoPllPhaseIncrement := rfl

@[simp] theorem auxUpdate_modulationRate (lfo : Int) (s : State) :
    (auxUpdate lfo s).modulationRate = s.modulationRate := rfl

@[simp] theorem auxUpdate_pitchBendRange (lfo : Int) (s : State) :
    (auxUpdate lfo s).pitchBendRange = s.pitchBendRange := rfl

@[simp] theorem auxUpdate_vibratoRange (lfo : Int) (s : State) :
    (auxUpdate lfo s).vibratoRange = s.vibratoRange := rfl

@[simp] theorem auxUpdate_tuning (lfo : Int) (s : State) :
    (auxUpdate lfo s).tuning = s.tuning := rfl

@[simp] theorem auxUpdate_triggerDuration (lfo : Int) (s : State) :
    (auxUpdate lfo s).triggerDuration = s.triggerDuration := rfl

@[simp] theorem auxUpdate_triggerShape (lfo : Int) (s : State) :
    (auxUpdate lfo s).triggerShape = s.triggerShape := rfl

@[simp] theorem auxUpdate_triggerScale (lfo : Int) (s : State) :
    (auxUpdate lfo s).triggerScale = s.triggerScale := rfl

@[simp] theorem auxUpdate_modVelocity (lfo : Int) (s : State) :
    (auxUpdate lfo s).modVelocity = s.modVelocity := rfl

@[simp] theorem auxUpdate_modWheel (lfo : Int) (s : State) :
    (auxUpdate lfo s).modWheel = s.modWheel := rfl

@[simp] theorem auxUpdate_modPitchBend (lfo : Int) (s : State) :
    (auxUpdate lfo s).modPitchBend = s.modPitchBend := rfl

@[simp] theorem auxUpdate_aux (lfo : Int) (s : State) :
    (auxUpdate lfo s).aux = ((((s.aux.set 0 (code7 s.modVelocity)).set 1 (code7 s.modWheel)).set 4
        (BitVec.ofNat 16 (s.modPitchBend.toNat <<< 2))).set 5
        (BitVec.ofInt 16 (asr (lfo * (s.modWheel.toNat : Int)) 7 + 32768))).set 6 (BitVec.ofInt 16 (lfo + 32768)) := rfl

@[simp] theorem auxUpdate_retriggerDelay (lfo : Int) (s : State) :
    (auxUpdate lfo s).retriggerDelay = s.retriggerDelay := rfl

@[simp] theorem auxUpdate_triggerPulse (lfo : Int) (s : State) :
    (auxUpdate lfo s).triggerPulse = s.triggerPulse := rfl

@[simp] theorem auxUpdate_triggerPhase (lfo : Int) (s : State) :
    (auxUpdate lfo s).triggerPhase = s.triggerPhase := rfl

@[simp] theorem auxUpdate_triggerPhaseIncrement (lfo : Int) (s : State) :
    (auxUpdate lfo s).triggerPhaseIncrement = s.triggerPhaseIncrement := rfl

@[simp] theorem auxUpdate_cal (lfo : Int) (s : State) :
    (auxUpdate lfo s).cal = s.cal := rfl

@[simp] theorem auxUpdate_dirty (lfo : Int) (s : State) :
    (auxUpdate lfo s).dirty = s.dirty := rfl

@[simp] theorem auxUpdate_noteDacCode (lfo : Int) (s : State) :
    (auxUpdate lfo s).noteDacCode = s.noteDacCode := rfl

@[simp] theorem auxUpdate_rom (lfo : Int) (s : State) :
    (auxUpdate lfo s).rom = s.rom := rfl

@[simp] theorem auxUpdate_hostStream (lfo : Int) (s : State) :
    (auxUpdate lfo s).hostStream = s.hostStream := rfl

@[simp] theorem auxUpdate_rsp (lfo : Int) (s : State) :
    (auxUpdate lfo s).rsp = s.rsp := rfl


/-! `trigArm`, field by field. -/

@[simp] theorem trigArm_currentNote (s : State) :
    (trigArm s).currentNote = s.currentNote := rfl

@[simp] theorem trigArm_noteSource (s : State) :
    (trigArm s).noteSource = s.noteSource := rfl

@[simp] theorem trigArm_noteTarget (s : State) :
    (trigArm s).noteTarget = s.noteTarget := rfl

@[simp] theorem trigArm_notePortamento (s : State) :
    (trigArm s).notePortamento = s.notePortamento := rfl

@[simp] theorem trigArm_gate (s : State) :
    (trigArm s).gate = s.gate := rfl

@[simp] theorem trigArm_portamentoPhase (s : State) :
    (trigArm s).portamentoPhase = s.portamentoPhase := rfl

@[simp] theorem trigArm_portamentoPhaseIncrement (s : State) :
    (trigArm s).portamentoPhaseIncrement = s.portamentoPhaseIncrement := rfl

@[simp] theorem trigArm_portamentoExponentialShape (s : State) :
    (trigArm s).portamentoExponentialShape = s.portamentoExponentialShape := rfl

@[simp] theorem trigArm_lfoPhase (s : State) :
    (trigArm s).lfoPhase = s.lfoPhase := rfl

@[simp] theorem trigArm_lfoPllPhaseIncrement (s : State) :
    (trigArm s).lfoPllPhaseIncrement = s.lfoPllPhaseIncrement := rfl

@[simp] theorem trigArm_modulationRate (s : State) :
    (trigArm s).modulationRate = s.modulationRate := rfl

@[simp] theorem trigArm_pitchBendRange (s : State) :
    (trigArm s).pitchBendRange = s.pitchBendRange := rfl

@[simp] theorem trigArm_vibratoRange (s : State) :
    (trigArm s).vibratoRange = s.vibratoRange := rfl

@[simp] theorem trigArm_tuning (s : State) :
    (trigArm s).tuning = s.tuning := rfl

@[simp] theorem trigArm_triggerDuration (s : State) :
    (trigArm s).triggerDuration = s.triggerDuration := rfl

@[simp] theorem trigArm_triggerShape (s : State) :
    (trigArm s).triggerShape = s.triggerShape := rfl

@[simp] theorem trigArm_triggerScale (s : State) :
    (trigArm s).triggerScale = s.triggerScale := rfl

@[simp] theorem trigArm_modVelocity (s : State) :
    (trigArm s).modVelocity = s.modVelocity := rfl

@[simp] theorem trigArm_modWheel (s : State) :
    (trigArm s).modWheel = s.modWheel := rfl

@[simp] theorem trigArm_modPitchBend (s : State) :
    (trigArm s).modPitchBend = s.modPitchBend := rfl

@[simp] theorem trigArm_aux (s : State) :
    (trigArm s).aux = s.aux := rfl

@[simp] theorem trigArm_retriggerDelay (s : State) :
    (trigArm s).retriggerDelay = if s.gate then Config.retrigTicks else s.retriggerDelay := rfl

@[simp] theorem trigArm_triggerPulse (s : State) :
    (trigArm s).triggerPulse = BitVec.ofNat 10 (s.triggerDuration.toNat * 8) := rfl

@[simp] theorem trigArm_triggerPhase (s : State) :
    (trigArm s).triggerPhase = 0 := rfl

@[simp] theorem trigArm_triggerPhaseIncrement (s : State) :
    (trigArm s).triggerPhaseIncrement = portIncAt s s.triggerDuration.toNat := rfl

@[simp] theorem trigArm_cal (s : State) :
    (trigArm s).cal = s.cal := rfl

@[simp] theorem trigArm_dirty (s : State) :
    (trigArm s).dirty = s.dirty := rfl

@[simp] theorem trigArm_noteDacCode (s : State) :
    (trigArm s).noteDacCode = s.noteDacCode := rfl

@[simp] theorem trigArm_rom (s : State) :
    (trigArm s).rom = s.rom := rfl

@[simp] theorem trigArm_hostStream (s : State) :
    (trigArm s).hostStream = s.hostStream := rfl

@[simp] theorem trigArm_rsp (s : State) :
    (trigArm s).rsp = s.rsp := rfl


/-! `countdownStep`, field by field. -/

@[simp] theorem countdownStep_currentNote (s : State) :
    (countdownStep s).currentNote = s.currentNote := rfl

@[simp] theorem countdownStep_noteSource (s : State) :
    (countdownStep s).noteSource = s.noteSource := rfl

@[simp] theorem countdownStep_noteTarget (s : State) :
    (countdownStep s).noteTarget = s.noteTarget := rfl

@[simp] theorem countdownStep_notePortamento (s : State) :
    (countdownStep s).notePortamento = s.notePortamento := rfl

@[simp] theorem countdownStep_gate (s : State) :
    (countdownStep s).gate = s.gate := rfl

@[simp] theorem countdownStep_portamentoPhase (s : State) :
    (countdownStep s).portamentoPhase = s.portamentoPhase := rfl

@[simp] theorem countdownStep_portamentoPhaseIncrement (s : State) :
    (countdownStep s).portamentoPhaseIncrement = s.portamentoPhaseIncrement := rfl

@[simp] theorem countdownStep_portamentoExponentialShape (s : State) :
    (countdownStep s).portamentoExponentialShape = s.portamentoExponentialShape := rfl

@[simp] theorem countdownStep_lfoPhase (s : State) :
    (countdownStep s).lfoPhase = s.lfoPhase := rfl

@[simp] theorem countdownStep_lfoPllPhaseIncrement (s : State) :
    (countdownStep s).lfoPllPhaseIncrement = s.lfoPllPhaseIncrement := rfl

@[simp] theorem countdownStep_modulationRate (s : State) :
    (countdownStep s).modulationRate = s.modulationRate := rfl

@[simp] theorem countdownStep_pitchBendRange (s : State) :
    (countdownStep s).pitchBendRange = s.pitchBendRange := rfl

@[simp] theorem countdownStep_vibratoRange (s : State) :
    (countdownStep s).vibratoRange = s.vibratoRange := rfl

@[simp] theorem countdownStep_tuning (s : State) :
    (countdownStep s).tuning = s.tuning := rfl

@[simp] theorem countdownStep_triggerDuration (s : State) :
    (countdownStep s).triggerDuration = s.triggerDuration := rfl

@[simp] theorem countdownStep_triggerShape (s : State) :
    (countdownStep s).triggerShape = s.triggerShape := rfl

@[simp] theorem countdownStep_triggerScale (s : State) :
    (countdownStep s).triggerScale = s.triggerScale := rfl

@[simp] theorem countdownStep_modVelocity (s : State) :
    (countdownStep s).modVelocity = s.modVelocity := rfl

@[simp] theorem countdownStep_modWheel (s : State) :
    (countdownStep s).modWheel = s.modWheel := rfl

@[simp] theorem countdownStep_modPitchBend (s : State) :
    (countdownStep s).modPitchBend = s.modPitchBend := rfl

@[simp] theorem countdownStep_aux (s : State) :
    (countdownStep s).aux = s.aux := rfl

@[simp] theorem countdownStep_retriggerDelay (s : State) :
    (countdownStep s).retriggerDelay = countDown s.retriggerDelay := rfl

@[simp] theorem countdownStep_triggerPulse (s : State) :
    (countdownStep s).triggerPulse = countDown s.triggerPulse := rfl

@[simp] theorem countdownStep_triggerPhase (s : State) :
    (countdownStep s).triggerPhase = s.triggerPhase := rfl

@[simp] theorem countdownStep_triggerPhaseIncrement (s : State) :
    (countdownStep s).triggerPhaseIncrement = s.triggerPhaseIncrement := rfl

@[simp] theorem countdownStep_cal (s : State) :
    (countdownStep s).cal = s.cal := rfl

@[simp] theorem countdownStep_dirty (s : State) :
    (countdownStep s).dirty = s.dirty := rfl

@[simp] theorem countdownStep_noteDacCode (s : State) :
    (countdownStep s).noteDacCode = s.noteDacCode := rfl

@[simp] theorem countdownStep_rom (s : State) :
    (countdownStep s).rom = s.rom := rfl

@[simp] theorem countdownStep_hostStream (s : State) :
    (countdownStep s).hostStream = s.hostStream := rfl

@[simp] theorem countdownStep_rsp (s : State) :
    (countdownStep s).rsp = s.rsp := rfl


/-! `trigStep`, field by field. -/

@[simp] theorem trigStep_currentNote (s : State) :
    (trigStep s).currentNote = s.currentNote := rfl

@[simp] theorem trigStep_noteSource (s : State) :
    (trigStep s).noteSource = s.noteSource := rfl

@[simp] theorem trigStep_noteTarget (s : State) :
    (trigStep s).noteTarget = s.noteTarget := rfl

@[simp] theorem trigStep_notePortamento (s : State) :
    (trigStep s).notePortamento = s.notePortamento := rfl

@[simp] theorem trigStep_gate (s : State) :
    (trigStep s).gate = s.gate := rfl

@[simp] theorem trigStep_portamentoPhase (s : State) :
    (trigStep s).portamentoPhase = s.portamentoPhase := rfl

@[simp] theorem trigStep_portamentoPhaseIncrement (s : State) :
    (trigStep s).portamentoPhaseIncrement = s.portamentoPhaseIncrement := rfl

@[simp] theorem trigStep_portamentoExponentialShape (s : State) :
    (trigStep s).portamentoExponentialShape = s.portamentoExponentialShape := rfl

@[simp] theorem trigStep_lfoPhase (s : State) :
    (trigStep s).lfoPhase = s.lfoPhase := rfl

@[simp] theorem trigStep_lfoPllPhaseIncrement (s : State) :
    (trigStep s).lfoPllPhaseIncrement = s.lfoPllPhaseIncrement := rfl

@[simp] theorem trigStep_modulationRate (s : State) :
    (trigStep s).modulationRate = s.modulationRate := rfl

@[simp] theorem trigStep_pitchBendRange (s : State) :
    (trigStep s).pitchBendRange = s.pitchBendRange := rfl

@[simp] theorem trigStep_vibratoRange (s : State) :
    (trigStep s).vibratoRange = s.vibratoRange := rfl

@[simp] theorem trigStep_tuning (s : State) :
    (trigStep s).tuning = s.tuning := rfl

@[simp] theorem trigStep_triggerDuration (s : State) :
    (trigStep s).triggerDuration = s.triggerDuration := rfl

@[simp] theorem trigStep_triggerShape (s : State) :
    (trigStep s).triggerShape = s.triggerShape := rfl

@[simp] theorem trigStep_triggerScale (s : State) :
    (trigStep s).triggerScale = s.triggerScale := rfl

@[simp] theorem trigStep_modVelocity (s : State) :
    (trigStep s).modVelocity = s.modVelocity := rfl

@[simp] theorem trigStep_modWheel (s : State) :
    (trigStep s).modWheel = s.modWheel := rfl

@[simp] theorem trigStep_modPitchBend (s : State) :
    (trigStep s).modPitchBend = s.modPitchBend := rfl

@[simp] theorem trigStep_aux (s : State) :
    (trigStep s).aux = s.aux := rfl

@[simp] theorem trigStep_retriggerDelay (s : State) :
    (trigStep s).retriggerDelay = s.retriggerDelay := rfl

@[simp] theorem trigStep_triggerPulse (s : State) :
    (trigStep s).triggerPulse = s.triggerPulse := rfl

@[simp] theorem trigStep_triggerPhase (s : State) :
    (trigStep s).triggerPhase = rampPhase s.triggerPhase s.triggerPhaseIncrement := rfl

@[simp] theorem trigStep_triggerPhaseIncrement (s : State) :
    (trigStep s).triggerPhaseIncrement = rampIncrement s.triggerPhase s.triggerPhaseIncrement := rfl

@[simp] theorem trigStep_cal (s : State) :
    (trigStep s).cal = s.cal := rfl

@[simp] theorem trigStep_dirty (s : State) :
    (trigStep s).dirty = s.dirty := rfl

@[simp] theorem trigStep_noteDacCode (s : State) :
    (trigStep s).noteDacCode = s.noteDacCode := rfl

@[simp] theorem trigStep_rom (s : State) :
    (trigStep s).rom = s.rom := rfl

@[simp] theorem trigStep_hostStream (s : State) :
    (trigStep s).hostStream = s.hostStream := rfl

@[simp] theorem trigStep_rsp (s : State) :
    (trigStep s).rsp = s.rsp := rfl


/-! `publish`, field by field. -/

@[simp] theorem publish_currentNote (note : Int) (s : State) :
    (publish note s).currentNote = if mustPublish note s then BitVec.ofInt 32 note else s.currentNote := rfl

@[simp] theorem publish_noteSource (note : Int) (s : State) :
    (publish note s).noteSource = s.noteSource := rfl

@[simp] theorem publish_noteTarget (note : Int) (s : State) :
    (publish note s).noteTarget = s.noteTarget := rfl

@[simp] theorem publish_notePortamento (note : Int) (s : State) :
    (publish note s).notePortamento = s.notePortamento := rfl

@[simp] theorem publish_gate (note : Int) (s : State) :
    (publish note s).gate = s.gate := rfl

@[simp] theorem publish_portamentoPhase (note : Int) (s : State) :
    (publish note s).portamentoPhase = s.portamentoPhase := rfl

@[simp] theorem publish_portamentoPhaseIncrement (note : Int) (s : State) :
    (publish note s).portamentoPhaseIncrement = s.portamentoPhaseIncrement := rfl

@[simp] theorem publish_portamentoExponentialShape (note : Int) (s : State) :
    (publish note s).portamentoExponentialShape = s.portamentoExponentialShape := rfl

@[simp] theorem publish_lfoPhase (note : Int) (s : State) :
    (publish note s).lfoPhase = s.lfoPhase := rfl

@[simp] theorem publish_lfoPllPhaseIncrement (note : Int) (s : State) :
    (publish note s).lfoPllPhaseIncrement = s.lfoPllPhaseIncrement := rfl

@[simp] theorem publish_modulationRate (note : Int) (s : State) :
    (publish note s).modulationRate = s.modulationRate := rfl

@[simp] theorem publish_pitchBendRange (note : Int) (s : State) :
    (publish note s).pitchBendRange = s.pitchBendRange := rfl

@[simp] theorem publish_vibratoRange (note : Int) (s : State) :
    (publish note s).vibratoRange = s.vibratoRange := rfl

@[simp] theorem publish_tuning (note : Int) (s : State) :
    (publish note s).tuning = s.tuning := rfl

@[simp] theorem publish_triggerDuration (note : Int) (s : State) :
    (publish note s).triggerDuration = s.triggerDuration := rfl

@[simp] theorem publish_triggerShape (note : Int) (s : State) :
    (publish note s).triggerShape = s.triggerShape := rfl

@[simp] theorem publish_triggerScale (note : Int) (s : State) :
    (publish note s).triggerScale = s.triggerScale := rfl

@[simp] theorem publish_modVelocity (note : Int) (s : State) :
    (publish note s).modVelocity = s.modVelocity := rfl

@[simp] theorem publish_modWheel (note : Int) (s : State) :
    (publish note s).modWheel = s.modWheel := rfl

@[simp] theorem publish_modPitchBend (note : Int) (s : State) :
    (publish note s).modPitchBend = s.modPitchBend := rfl

@[simp] theorem publish_aux (note : Int) (s : State) :
    (publish note s).aux = s.aux := rfl

@[simp] theorem publish_retriggerDelay (note : Int) (s : State) :
    (publish note s).retriggerDelay = s.retriggerDelay := rfl

@[simp] theorem publish_triggerPulse (note : Int) (s : State) :
    (publish note s).triggerPulse = s.triggerPulse := rfl

@[simp] theorem publish_triggerPhase (note : Int) (s : State) :
    (publish note s).triggerPhase = s.triggerPhase := rfl

@[simp] theorem publish_triggerPhaseIncrement (note : Int) (s : State) :
    (publish note s).triggerPhaseIncrement = s.triggerPhaseIncrement := rfl

@[simp] theorem publish_cal (note : Int) (s : State) :
    (publish note s).cal = s.cal := rfl

@[simp] theorem publish_dirty (note : Int) (s : State) :
    (publish note s).dirty = if mustPublish note s then false else s.dirty := rfl

@[simp] theorem publish_noteDacCode (note : Int) (s : State) :
    (publish note s).noteDacCode = if mustPublish note s then quantize s.cal note else s.noteDacCode := rfl

@[simp] theorem publish_rom (note : Int) (s : State) :
    (publish note s).rom = s.rom := rfl

@[simp] theorem publish_hostStream (note : Int) (s : State) :
    (publish note s).hostStream = s.hostStream := rfl

@[simp] theorem publish_rsp (note : Int) (s : State) :
    (publish note s).rsp = s.rsp := rfl


/-! `refreshState`, field by field. -/

@[simp] theorem refreshState_currentNote (s : State) :
    (refreshState s).currentNote = if mustPublish (composedPitch s) s then BitVec.ofInt 32 (composedPitch s) else s.currentNote := (rfl)

@[simp] theorem refreshState_noteSource (s : State) :
    (refreshState s).noteSource = if rampCompletes s.portamentoPhase s.portamentoPhaseIncrement then s.noteTarget else s.noteSource := (rfl)

@[simp] theorem refreshState_noteTarget (s : State) :
    (refreshState s).noteTarget = s.noteTarget := (rfl)

@[simp] theorem refreshState_notePortamento (s : State) :
    (refreshState s).notePortamento = BitVec.ofInt 16 (glidePitch (glideAdvance s)) := (rfl)

@[simp] theorem refreshState_gate (s : State) :
    (refreshState s).gate = s.gate := (rfl)

@[simp] theorem refreshState_portamentoPhase (s : State) :
    (refreshState s).portamentoPhase = rampPhase s.portamentoPhase s.portamentoPhaseIncrement := (rfl)

@[simp] theorem refreshState_portamentoPhaseIncrement (s : State) :
    (refreshState s).portamentoPhaseIncrement = rampIncrement s.portamentoPhase s.portamentoPhaseIncrement := (rfl)

@[simp] theorem refreshState_portamentoExponentialShape (s : State) :
    (refreshState s).portamentoExponentialShape = s.portamentoExponentialShape := (rfl)

@[simp] theorem refreshState_lfoPhase (s : State) :
    (refreshState s).lfoPhase = s.lfoPhase + lfoIncrement s := (rfl)

@[simp] theorem refreshState_lfoPllPhaseIncrement (s : State) :
    (refreshState s).lfoPllPhaseIncrement = s.lfoPllPhaseIncrement := (rfl)

@[simp] theorem refreshState_modulationRate (s : State) :
    (refreshState s).modulationRate = s.modulationRate := (rfl)

@[simp] theorem refreshState_pitchBendRange (s : State) :
    (refreshState s).pitchBendRange = s.pitchBendRange := (rfl)

@[simp] theorem refreshState_vibratoRange (s : State) :
    (refreshState s).vibratoRange = s.vibratoRange := (rfl)

@[simp] theorem refreshState_tuning (s : State) :
    (refreshState s).tuning = s.tuning := (rfl)

@[simp] theorem refreshState_triggerDuration (s : State) :
    (refreshState s).triggerDuration = s.triggerDuration := (rfl)

@[simp] theorem refreshState_triggerShape (s : State) :
    (refreshState s).triggerShape = s.triggerShape := (rfl)

@[simp] theorem refreshState_triggerScale (s : State) :
    (refreshState s).triggerScale = s.triggerScale := (rfl)

@[simp] theorem refreshState_modVelocity (s : State) :
    (refreshState s).modVelocity = s.modVelocity := (rfl)

@[simp] theorem refreshState_modWheel (s : State) :
    (refreshState s).modWheel = s.modWheel := (rfl)

@[simp] theorem refreshState_modPitchBend (s : State) :
    (refreshState s).modPitchBend = s.modPitchBend := (rfl)

@[simp] theorem refreshState_aux (s : State) :
    (refreshState s).aux = (auxUpdate (lfoWave (s.lfoPhase + lfoIncrement s)) s).aux := (rfl)

@[simp] theorem refreshState_retriggerDelay (s : State) :
    (refreshState s).retriggerDelay = countDown s.retriggerDelay := (rfl)

@[simp] theorem refreshState_triggerPulse (s : State) :
    (refreshState s).triggerPulse = countDown s.triggerPulse := (rfl)

@[simp] theorem refreshState_triggerPhase (s : State) :
    (refreshState s).triggerPhase = rampPhase s.triggerPhase s.triggerPhaseIncrement := (rfl)

@[simp] theorem refreshState_triggerPhaseIncrement (s : State) :
    (refreshState s).triggerPhaseIncrement = rampIncrement s.triggerPhase s.triggerPhaseIncrement := (rfl)

@[simp] theorem refreshState_cal (s : State) :
    (refreshState s).cal = s.cal := (rfl)

@[simp] theorem refreshState_dirty (s : State) :
    (refreshState s).dirty = if mustPublish (composedPitch s) s then false else s.dirty := (rfl)

@[simp] theorem refreshState_noteDacCode (s : State) :
    (refreshState s).noteDacCode = if mustPublish (composedPitch s) s then quantize s.cal (composedPitch s) else s.noteDacCode := (rfl)

@[simp] theorem refreshState_rom (s : State) :
    (refreshState s).rom = s.rom := (rfl)

@[simp] theorem refreshState_hostStream (s : State) :
    (refreshState s).hostStream = s.hostStream := (rfl)

@[simp] theorem refreshState_rsp (s : State) :
    (refreshState s).rsp = s.rsp := (rfl)


/-! `noteOnState`, field by field. -/

@[simp] theorem noteOnState_currentNote (note : Pitch) (velocity amount : BitVec 7) (trigger : Bool) (s : State) :
    (noteOnState note velocity amount trigger s).currentNote = s.currentNote := by cases trigger <;> rfl

@[simp] theorem noteOnState_noteSource (note : Pitch) (velocity amount : BitVec 7) (trigger : Bool) (s : State) :
    (noteOnState note velocity amount trigger s).noteSource = armedSource note amount s := by cases trigger <;> rfl

@[simp] theorem noteOnState_noteTarget (note : Pitch) (velocity amount : BitVec 7) (trigger : Bool) (s : State) :
    (noteOnState note velocity amount trigger s).noteTarget = note := by cases trigger <;> rfl

@[simp] theorem noteOnState_notePortamento (note : Pitch) (velocity amount : BitVec 7) (trigger : Bool) (s : State) :
    (noteOnState note velocity amount trigger s).notePortamento = s.notePortamento := by cases trigger <;> rfl

@[simp] theorem noteOnState_gate (note : Pitch) (velocity amount : BitVec 7) (trigger : Bool) (s : State) :
    (noteOnState note velocity amount trigger s).gate = true := by cases trigger <;> rfl

@[simp] theorem noteOnState_portamentoPhase (note : Pitch) (velocity amount : BitVec 7) (trigger : Bool) (s : State) :
    (noteOnState note velocity amount trigger s).portamentoPhase = 0 := by cases trigger <;> rfl

@[simp] theorem noteOnState_portamentoPhaseIncrement (note : Pitch) (velocity amount : BitVec 7) (trigger : Bool) (s : State) :
    (noteOnState note velocity amount trigger s).portamentoPhaseIncrement = armedIncrement note amount s := by cases trigger <;> rfl

@[simp] theorem noteOnState_portamentoExponentialShape (note : Pitch) (velocity amount : BitVec 7) (trigger : Bool) (s : State) :
    (noteOnState note velocity amount trigger s).portamentoExponentialShape = decide (clampedAmount amount ≤ Config.portSplit) := by cases trigger <;> rfl

@[simp] theorem noteOnState_lfoPhase (note : Pitch) (velocity amount : BitVec 7) (trigger : Bool) (s : State) :
    (noteOnState note velocity amount trigger s).lfoPhase = s.lfoPhase := by cases trigger <;> rfl

@[simp] theorem noteOnState_lfoPllPhaseIncrement (note : Pitch) (velocity amount : BitVec 7) (trigger : Bool) (s : State) :
    (noteOnState note velocity amount trigger s).lfoPllPhaseIncrement = s.lfoPllPhaseIncrement := by cases trigger <;> rfl

@[simp] theorem noteOnState_modulationRate (note : Pitch) (velocity amount : BitVec 7) (trigger : Bool) (s : State) :
    (noteOnState note velocity amount trigger s).modulationRate = s.modulationRate := by cases trigger <;> rfl

@[simp] theorem noteOnState_pitchBendRange (note : Pitch) (velocity amount : BitVec 7) (trigger : Bool) (s : State) :
    (noteOnState note velocity amount trigger s).pitchBendRange = s.pitchBendRange := by cases trigger <;> rfl

@[simp] theorem noteOnState_vibratoRange (note : Pitch) (velocity amount : BitVec 7) (trigger : Bool) (s : State) :
    (noteOnState note velocity amount trigger s).vibratoRange = s.vibratoRange := by cases trigger <;> rfl

@[simp] theorem noteOnState_tuning (note : Pitch) (velocity amount : BitVec 7) (trigger : Bool) (s : State) :
    (noteOnState note velocity amount trigger s).tuning = s.tuning := by cases trigger <;> rfl

@[simp] theorem noteOnState_triggerDuration (note : Pitch) (velocity amount : BitVec 7) (trigger : Bool) (s : State) :
    (noteOnState note velocity amount trigger s).triggerDuration = s.triggerDuration := by cases trigger <;> rfl

@[simp] theorem noteOnState_triggerShape (note : Pitch) (velocity amount : BitVec 7) (trigger : Bool) (s : State) :
    (noteOnState note velocity amount trigger s).triggerShape = s.triggerShape := by cases trigger <;> rfl

@[simp] theorem noteOnState_triggerScale (note : Pitch) (velocity amount : BitVec 7) (trigger : Bool) (s : State) :
    (noteOnState note velocity amount trigger s).triggerScale = s.triggerScale := by cases trigger <;> rfl

@[simp] theorem noteOnState_modVelocity (note : Pitch) (velocity amount : BitVec 7) (trigger : Bool) (s : State) :
    (noteOnState note velocity amount trigger s).modVelocity = velocity := by cases trigger <;> rfl

@[simp] theorem noteOnState_modWheel (note : Pitch) (velocity amount : BitVec 7) (trigger : Bool) (s : State) :
    (noteOnState note velocity amount trigger s).modWheel = s.modWheel := by cases trigger <;> rfl

@[simp] theorem noteOnState_modPitchBend (note : Pitch) (velocity amount : BitVec 7) (trigger : Bool) (s : State) :
    (noteOnState note velocity amount trigger s).modPitchBend = s.modPitchBend := by cases trigger <;> rfl

@[simp] theorem noteOnState_aux (note : Pitch) (velocity amount : BitVec 7) (trigger : Bool) (s : State) :
    (noteOnState note velocity amount trigger s).aux = s.aux := by cases trigger <;> rfl

@[simp] theorem noteOnState_retriggerDelay (note : Pitch) (velocity amount : BitVec 7) (trigger : Bool) (s : State) :
    (noteOnState note velocity amount trigger s).retriggerDelay = if trigger && s.gate then Config.retrigTicks else s.retriggerDelay := by cases trigger <;> rfl

@[simp] theorem noteOnState_triggerPulse (note : Pitch) (velocity amount : BitVec 7) (trigger : Bool) (s : State) :
    (noteOnState note velocity amount trigger s).triggerPulse = if trigger then BitVec.ofNat 10 (s.triggerDuration.toNat * 8) else s.triggerPulse := by cases trigger <;> rfl

@[simp] theorem noteOnState_triggerPhase (note : Pitch) (velocity amount : BitVec 7) (trigger : Bool) (s : State) :
    (noteOnState note velocity amount trigger s).triggerPhase = if trigger then 0 else s.triggerPhase := by cases trigger <;> rfl

@[simp] theorem noteOnState_triggerPhaseIncrement (note : Pitch) (velocity amount : BitVec 7) (trigger : Bool) (s : State) :
    (noteOnState note velocity amount trigger s).triggerPhaseIncrement = if trigger then portIncAt s s.triggerDuration.toNat else s.triggerPhaseIncrement := by cases trigger <;> rfl

@[simp] theorem noteOnState_cal (note : Pitch) (velocity amount : BitVec 7) (trigger : Bool) (s : State) :
    (noteOnState note velocity amount trigger s).cal = s.cal := by cases trigger <;> rfl

@[simp] theorem noteOnState_dirty (note : Pitch) (velocity amount : BitVec 7) (trigger : Bool) (s : State) :
    (noteOnState note velocity amount trigger s).dirty = s.dirty := by cases trigger <;> rfl

@[simp] theorem noteOnState_noteDacCode (note : Pitch) (velocity amount : BitVec 7) (trigger : Bool) (s : State) :
    (noteOnState note velocity amount trigger s).noteDacCode = s.noteDacCode := by cases trigger <;> rfl

@[simp] theorem noteOnState_rom (note : Pitch) (velocity amount : BitVec 7) (trigger : Bool) (s : State) :
    (noteOnState note velocity amount trigger s).rom = s.rom := by cases trigger <;> rfl

@[simp] theorem noteOnState_hostStream (note : Pitch) (velocity amount : BitVec 7) (trigger : Bool) (s : State) :
    (noteOnState note velocity amount trigger s).hostStream = s.hostStream := by cases trigger <;> rfl

@[simp] theorem noteOnState_rsp (note : Pitch) (velocity amount : BitVec 7) (trigger : Bool) (s : State) :
    (noteOnState note velocity amount trigger s).rsp = s.rsp := by cases trigger <;> rfl

@[simp] theorem State.withFetchWord_currentNote (s : State) (nbits w : Nat) :
    (s.withFetchWord nbits w).currentNote = s.currentNote := (rfl)

@[simp] theorem State.withFetchWord_noteSource (s : State) (nbits w : Nat) :
    (s.withFetchWord nbits w).noteSource = s.noteSource := rfl

@[simp] theorem State.withFetchWord_noteTarget (s : State) (nbits w : Nat) :
    (s.withFetchWord nbits w).noteTarget = s.noteTarget := rfl

@[simp] theorem State.withFetchWord_notePortamento (s : State) (nbits w : Nat) :
    (s.withFetchWord nbits w).notePortamento = s.notePortamento := rfl

@[simp] theorem State.withFetchWord_gate (s : State) (nbits w : Nat) :
    (s.withFetchWord nbits w).gate = s.gate := rfl

@[simp] theorem State.withFetchWord_portamentoPhase (s : State) (nbits w : Nat) :
    (s.withFetchWord nbits w).portamentoPhase = s.portamentoPhase := rfl

@[simp] theorem State.withFetchWord_portamentoPhaseIncrement (s : State) (nbits w : Nat) :
    (s.withFetchWord nbits w).portamentoPhaseIncrement = s.portamentoPhaseIncrement := rfl

@[simp] theorem State.withFetchWord_portamentoExponentialShape (s : State) (nbits w : Nat) :
    (s.withFetchWord nbits w).portamentoExponentialShape = s.portamentoExponentialShape := rfl

@[simp] theorem State.withFetchWord_lfoPhase (s : State) (nbits w : Nat) :
    (s.withFetchWord nbits w).lfoPhase = s.lfoPhase := rfl

@[simp] theorem State.withFetchWord_lfoPllPhaseIncrement (s : State) (nbits w : Nat) :
    (s.withFetchWord nbits w).lfoPllPhaseIncrement = s.lfoPllPhaseIncrement := rfl

@[simp] theorem State.withFetchWord_modulationRate (s : State) (nbits w : Nat) :
    (s.withFetchWord nbits w).modulationRate = s.modulationRate := rfl

@[simp] theorem State.withFetchWord_pitchBendRange (s : State) (nbits w : Nat) :
    (s.withFetchWord nbits w).pitchBendRange = s.pitchBendRange := rfl

@[simp] theorem State.withFetchWord_vibratoRange (s : State) (nbits w : Nat) :
    (s.withFetchWord nbits w).vibratoRange = s.vibratoRange := rfl

@[simp] theorem State.withFetchWord_tuning (s : State) (nbits w : Nat) :
    (s.withFetchWord nbits w).tuning = s.tuning := rfl

@[simp] theorem State.withFetchWord_triggerDuration (s : State) (nbits w : Nat) :
    (s.withFetchWord nbits w).triggerDuration = s.triggerDuration := rfl

@[simp] theorem State.withFetchWord_triggerShape (s : State) (nbits w : Nat) :
    (s.withFetchWord nbits w).triggerShape = s.triggerShape := rfl

@[simp] theorem State.withFetchWord_triggerScale (s : State) (nbits w : Nat) :
    (s.withFetchWord nbits w).triggerScale = s.triggerScale := rfl

@[simp] theorem State.withFetchWord_modVelocity (s : State) (nbits w : Nat) :
    (s.withFetchWord nbits w).modVelocity = s.modVelocity := rfl

@[simp] theorem State.withFetchWord_modWheel (s : State) (nbits w : Nat) :
    (s.withFetchWord nbits w).modWheel = s.modWheel := rfl

@[simp] theorem State.withFetchWord_modPitchBend (s : State) (nbits w : Nat) :
    (s.withFetchWord nbits w).modPitchBend = s.modPitchBend := rfl

@[simp] theorem State.withFetchWord_aux (s : State) (nbits w : Nat) :
    (s.withFetchWord nbits w).aux = s.aux := rfl

@[simp] theorem State.withFetchWord_retriggerDelay (s : State) (nbits w : Nat) :
    (s.withFetchWord nbits w).retriggerDelay = s.retriggerDelay := rfl

@[simp] theorem State.withFetchWord_triggerPulse (s : State) (nbits w : Nat) :
    (s.withFetchWord nbits w).triggerPulse = s.triggerPulse := rfl

@[simp] theorem State.withFetchWord_triggerPhase (s : State) (nbits w : Nat) :
    (s.withFetchWord nbits w).triggerPhase = s.triggerPhase := rfl

@[simp] theorem State.withFetchWord_triggerPhaseIncrement (s : State) (nbits w : Nat) :
    (s.withFetchWord nbits w).triggerPhaseIncrement = s.triggerPhaseIncrement := rfl

@[simp] theorem State.withFetchWord_cal (s : State) (nbits w : Nat) :
    (s.withFetchWord nbits w).cal = s.cal := rfl

@[simp] theorem State.withFetchWord_dirty (s : State) (nbits w : Nat) :
    (s.withFetchWord nbits w).dirty = s.dirty := rfl

@[simp] theorem State.withFetchWord_noteDacCode (s : State) (nbits w : Nat) :
    (s.withFetchWord nbits w).noteDacCode = s.noteDacCode := rfl

@[simp] theorem State.withFetchWord_rom (s : State) (nbits w : Nat) :
    (s.withFetchWord nbits w).rom = s.rom := rfl

@[simp] theorem State.withFetchWord_hostStream (s : State) (nbits w : Nat) :
    (s.withFetchWord nbits w).hostStream = .command (tableWord nbits w) :: s.hostStream := rfl

@[simp] theorem State.withFetchWord_rsp (s : State) (nbits w : Nat) :
    (s.withFetchWord nbits w).rsp = s.rsp := rfl


end Sys2Proof.Machine
end

