-- ==== Sys2Proof/Laws/Ops.lean ====
section
/-! SUPPORT. What each shared operation does, said once. -/

namespace Sys2Proof.Machine

/-! Arithmetic (00_scope R9, R10, R12). -/

theorem asr_eq_div (v : Int) (k : Nat) : asr v k = v / 2 ^ k := rfl

@[simp] theorem asr_zero (k : Nat) : asr 0 k = 0 := by simp [asr]

/-- A fraction of a distance lies between nothing and the distance. -/
theorem asr_fraction_between (d f : Int) (k : Nat) (h0 : 0 ≤ f) (h1 : f < 2 ^ k) :
    min 0 d ≤ asr (d * f) k ∧ asr (d * f) k ≤ max 0 d := by
  have hp : (0 : Int) < 2 ^ k := by positivity
  unfold asr
  rcases le_total 0 d with hd | hd
  · rw [min_eq_left hd, max_eq_right hd]
    exact ⟨Int.ediv_nonneg (mul_nonneg hd h0) hp.le, Int.ediv_le_of_le_mul hp (by nlinarith)⟩
  · rw [min_eq_right hd, max_eq_left hd]
    exact ⟨(Int.le_ediv_iff_mul_le hp).2 (by nlinarith), Int.ediv_nonpos_of_nonpos_of_neg (by nlinarith) hp⟩

theorem clamp_low (v lo hi : Int) (h : lo ≤ hi) : lo ≤ clamp v lo hi := by unfold clamp; omega

theorem clamp_high (v lo hi : Int) : clamp v lo hi ≤ hi := by unfold clamp; omega

theorem clamp_of_mem (v lo hi : Int) (h1 : lo ≤ v) (h2 : v ≤ hi) : clamp v lo hi = v := by unfold clamp; omega

/-- An exact integer in range is what its stored bit pattern reads as. -/
theorem toInt_ofInt_of_mem (w : Nat) (v : Int) (h1 : -2 ^ w ≤ v) (h2 : v < 2 ^ w) :
    (BitVec.ofInt (w + 1) v).toInt = v := by
  rw [BitVec.toInt_ofInt]
  apply Int.bmod_eq_of_le_mul_two <;> push_cast <;> rw [pow_succ] <;> omega

/-- An exact natural in range is what its stored bit pattern reads as. -/
theorem toNat_ofInt_of_mem (w : Nat) (v : Int) (h1 : 0 ≤ v) (h2 : v < 2 ^ w) :
    ((BitVec.ofInt w v).toNat : Int) = v := by
  rw [BitVec.toNat_ofInt]
  have hm : v % ((2 ^ w : Nat) : Int) = v := Int.emod_eq_of_lt h1 (by push_cast; exact h2)
  rw [hm, Int.toNat_of_nonneg h1]

/-! Table reads (20_memory R61): the bound never acts on an index inside the table. -/

theorem bounded_inside {α : Type} {n : Nat} (table : Vector α (n + 1)) (i : Nat) (h : i < n + 1) :
    bounded table i = table[i] := by
  have : min i n = i := by omega
  simp [bounded, this]

theorem bounded_beyond {α : Type} {n : Nat} (table : Vector α (n + 1)) (i : Nat) (h : n ≤ i) :
    bounded table i = table[n] := by
  have : min i n = n := by omega
  simp [bounded, this]

/-! The wrapping ramp (41_glide R115, 44_trigger R158). -/

theorem rampCompletes_iff (phase inc : Phase) :
    rampCompletes phase inc = true ↔ 2 ^ 32 ≤ phase.toNat + inc.toNat := by
  have hp := phase.isLt
  have hi := inc.isLt
  simp only [rampCompletes, decide_eq_true_eq, BitVec.lt_def, BitVec.toNat_add]
  omega

theorem rampPhase_of_completes (phase inc : Phase) (h : rampCompletes phase inc = true) : rampPhase phase inc = 0 := by
  simp [rampPhase, h]

theorem rampIncrement_of_completes (phase inc : Phase) (h : rampCompletes phase inc = true) :
    rampIncrement phase inc = 0 := by
  simp [rampIncrement, h]

theorem rampPhase_of_runs (phase inc : Phase) (h : rampCompletes phase inc = false) :
    rampPhase phase inc = phase + inc := by
  simp [rampPhase, h]

theorem rampIncrement_of_runs (phase inc : Phase) (h : rampCompletes phase inc = false) :
    rampIncrement phase inc = inc := by
  simp [rampIncrement, h]

/-! Countdowns (44_trigger R157). -/

theorem countDown_toNat {w : Nat} (c : BitVec w) : (countDown c).toNat = c.toNat - 1 := by
  unfold countDown
  split
  · simp_all
  · next h =>
    have hc : c.toNat ≠ 0 := fun h0 => h (BitVec.eq_of_toNat_eq (by simpa using h0))
    have hw : 1 < 2 ^ w := by have := c.isLt; omega
    have h1 : (1 : BitVec w).toNat = 1 := by simpa using Nat.mod_eq_of_lt hw
    rw [BitVec.toNat_sub_of_le (by rw [BitVec.le_def]; omega), h1]

/-! Responses (30_encoding R82): what a command that ends in one of them answers. -/

@[simp] theorem silent_eq_next_iff (s t : State) : silent s = .next t ↔ t = { s with rsp := none } := by
  simp [silent, eq_comm]

@[simp] theorem respond_eq_next_iff (v : Code) (s t : State) :
    respond v s = .next t ↔ t = { s with rsp := some v } := by
  simp [respond, eq_comm]

/-! Sequences of commands (30_encoding R81, R89). -/

@[simp] theorem execAll_nil (s : State) : execAll [] s = .next s := rfl

theorem execAll_cons_next (i : Instr) (is : List Instr) (s t : State) (h : exec i s = .next t) :
    execAll (i :: is) s = execAll is t := by
  simp [execAll, h]

@[simp] theorem ticks_zero (s : State) : ticks 0 s = .next s := rfl

theorem ticks_succ (n : Nat) (s : State) : ticks (n + 1) s = ticks n { refreshState s with rsp := none } := rfl

/-- A sequence in two parts. -/
theorem execAll_append {is : List Instr} {s t : State} (js : List Instr) (h : execAll is s = .next t) :
    execAll (is ++ js) s = execAll js t := by
  induction is generalizing s with
  | nil =>
    cases h
    rfl
  | cons i is ih =>
    simp only [execAll, List.cons_append] at h ⊢
    split at h
    · exact ih h
    · cases h
    · cases h

/-- The last of several ticks. -/
theorem ticks_last {n : Nat} {s t : State} (h : ticks n s = .next t) :
    ticks (n + 1) s = .next { refreshState t with rsp := none } := by
  induction n generalizing s with
  | zero =>
    cases h
    rfl
  | succ n ih =>
    rw [ticks_succ] at h ⊢
    exact ih h

/-- The opcode field is the quotient of the word by `2^36` (30_encoding R85). -/
theorem opcode_toNat (w : CmdWord) : (slice w 36 4).toNat = w.toNat / 2 ^ 36 := by
  have := w.isLt
  simp only [BitVec.extractLsb'_toNat, Nat.shiftRight_eq_div_pow]
  omega

end Sys2Proof.Machine
end

