-- ==== Sys2Proof/Laws/PerInstr.lean ====
section
/-! SUPPORT. Facts about every command as syntax, one lemma per constructor. -/

namespace Sys2Proof.Laws

/-- Every operand of the command is in the range 30_encoding R84 gives it: "no operand value can be out of the range its
command accepts". -/
def OperandsInRange.Statement (i : Instr) : Prop := i.raw.wellFormed = true

/-- The operands of a command at their places in the word, every other bit zero (30_encoding R83). -/
def payload : Instr → Nat
  | .nop => 0
  | .init rc => rc.toNat
  | .calWrite idx code => idx.toNat * 2 ^ 16 + code.toNat
  | .noteOn note velocity amount trigger =>
      trigger.toNat * 2 ^ 30 + amount.toNat * 2 ^ 23 + velocity.toNat * 2 ^ 16 + note.toNat
  | .noteOff => 0
  | .controlChange controller value => controller.toNat * 2 ^ 8 + value.toNat
  | .pitchBend bend => bend.toNat
  | .cfgWrite reg data => reg.toNat * 2 ^ 32 + data.toNat
  | .refresh => 0
  | .rdNote => 0
  | .rdTrig => 0
  | .rdAux ch => ch.toNat
  | .rdStatus => 0
  | .rdCal idx => idx.toNat * 2 ^ 16
  | .reservedE => 0
  | .reservedF => 0

/-- The word of the command as a number: its opcode above its payload (30_encoding R83, R88). -/
def WordValue.Statement (i : Instr) : Prop := (encode i).toNat = i.opc.toNat * 2 ^ 36 + payload i

/-- Concatenation as arithmetic (00_scope R6). -/
theorem append_toNat {m n : Nat} (x : BitVec m) (y : BitVec n) : (x ++ y).toNat = x.toNat * 2 ^ n + y.toNat := by
  rw [BitVec.toNat_append, ← Nat.shiftLeft_add_eq_or_of_lt y.isLt, Nat.shiftLeft_eq]

/-- A slice as arithmetic (00_scope R6). -/
theorem slice_toNat {w : Nat} (v : BitVec w) (lo len : Nat) : (slice v lo len).toNat = v.toNat / 2 ^ lo % 2 ^ len := by
  simp [slice, Nat.shiftRight_eq_div_pow]

/-- One bit as arithmetic (00_scope R6). -/
theorem bit_toNat {w : Nat} (v : BitVec w) (i : Nat) : (v.getLsbD i).toNat = v.toNat / 2 ^ i % 2 := by
  rw [BitVec.getLsbD, Nat.testBit_eq_decide_div_mod_eq]
  rcases Nat.mod_two_eq_zero_or_one (v.toNat / 2 ^ i) with h | h <;> simp [h]

/-- A one-bit vector made of a truth value. -/
theorem ofBool_toNat (b : Bool) : (BitVec.ofBool b).toNat = b.toNat := by cases b <;> rfl

/-- An unsigned field holds what it holds. -/
theorem holds_of_toNat {w : Nat} (o : Operand) (v : BitVec w) (h0 : o.range.1 = 0) (h1 : o.range.2 = 2 ^ w - 1) :
    o.holds (v.toNat : Int) = true := by
  have hv : (v.toNat : Int) < 2 ^ w := by exact_mod_cast v.isLt
  simp only [Operand.holds, h0, h1, Bool.and_eq_true, decide_eq_true_eq]
  omega

/-- A one-bit field holds what it holds. -/
theorem holds_of_bool (o : Operand) (b : Bool) (h0 : o.range.1 = 0) (h1 : o.range.2 = 1) :
    o.holds (b.toNat : Int) = true := by
  cases b <;> simp [Operand.holds, h0, h1]

/-- The signed note field holds what it holds. -/
theorem holds_of_note (v : Pitch) : Operand.note.holds v.toInt = true := by
  have h1 := BitVec.le_toInt v
  have h2 := BitVec.toInt_lt (x := v)
  rw [Operand.holds, Bool.and_eq_true, decide_eq_true_eq, decide_eq_true_eq]
  exact ⟨by simpa [Operand.range] using h1, by simp only [Operand.range]; omega⟩

theorem OperandsInRange.nop : OperandsInRange.Statement (.nop) := by
  rfl

theorem OperandsInRange.init (rc : Bool) : OperandsInRange.Statement (.init rc) := by
  simp [OperandsInRange.Statement, RawCommand.wellFormed, Instr.raw, Instr.opc, Instr.operandValues, operandsOf, operandsFit,
    holds_of_bool .rc rc (by rfl) (by rfl)]

theorem OperandsInRange.calWrite (idx : BitVec 4) (code : Code) : OperandsInRange.Statement (.calWrite idx code) := by
  simp [OperandsInRange.Statement, RawCommand.wellFormed, Instr.raw, Instr.opc, Instr.operandValues, operandsOf, operandsFit,
    holds_of_toNat .idx idx (by rfl) (by rfl), holds_of_toNat .code code (by rfl) (by rfl)]

theorem OperandsInRange.noteOn (note : Pitch) (velocity : BitVec 7) (amount : BitVec 7) (trigger : Bool) : OperandsInRange.Statement (.noteOn note velocity amount trigger) := by
  simp [OperandsInRange.Statement, RawCommand.wellFormed, Instr.raw, Instr.opc, Instr.operandValues, operandsOf, operandsFit,
    holds_of_note note, holds_of_toNat .velocity velocity (by rfl) (by rfl), holds_of_toNat .amount amount (by rfl) (by rfl), holds_of_bool .trigger trigger (by rfl) (by rfl)]

theorem OperandsInRange.noteOff : OperandsInRange.Statement (.noteOff) := by
  rfl

theorem OperandsInRange.controlChange (controller : BitVec 7) (value : BitVec 7) : OperandsInRange.Statement (.controlChange controller value) := by
  simp [OperandsInRange.Statement, RawCommand.wellFormed, Instr.raw, Instr.opc, Instr.operandValues, operandsOf, operandsFit,
    holds_of_toNat .controller controller (by rfl) (by rfl), holds_of_toNat .value value (by rfl) (by rfl)]

theorem OperandsInRange.pitchBend (bend : BitVec 14) : OperandsInRange.Statement (.pitchBend bend) := by
  simp [OperandsInRange.Statement, RawCommand.wellFormed, Instr.raw, Instr.opc, Instr.operandValues, operandsOf, operandsFit,
    holds_of_toNat .bend bend (by rfl) (by rfl)]

theorem OperandsInRange.cfgWrite (reg : BitVec 4) (data : BitVec 32) : OperandsInRange.Statement (.cfgWrite reg data) := by
  simp [OperandsInRange.Statement, RawCommand.wellFormed, Instr.raw, Instr.opc, Instr.operandValues, operandsOf, operandsFit,
    holds_of_toNat .reg reg (by rfl) (by rfl), holds_of_toNat .data data (by rfl) (by rfl)]

theorem OperandsInRange.refresh : OperandsInRange.Statement (.refresh) := by
  rfl

theorem OperandsInRange.rdNote : OperandsInRange.Statement (.rdNote) := by
  rfl

theorem OperandsInRange.rdTrig : OperandsInRange.Statement (.rdTrig) := by
  rfl

theorem OperandsInRange.rdAux (ch : BitVec 3) : OperandsInRange.Statement (.rdAux ch) := by
  simp [OperandsInRange.Statement, RawCommand.wellFormed, Instr.raw, Instr.opc, Instr.operandValues, operandsOf, operandsFit,
    holds_of_toNat .ch ch (by rfl) (by rfl)]

theorem OperandsInRange.rdStatus : OperandsInRange.Statement (.rdStatus) := by
  rfl

theorem OperandsInRange.rdCal (idx : BitVec 4) : OperandsInRange.Statement (.rdCal idx) := by
  simp [OperandsInRange.Statement, RawCommand.wellFormed, Instr.raw, Instr.opc, Instr.operandValues, operandsOf, operandsFit,
    holds_of_toNat .idx idx (by rfl) (by rfl)]

theorem OperandsInRange.reservedE : OperandsInRange.Statement (.reservedE) := by
  rfl

theorem OperandsInRange.reservedF : OperandsInRange.Statement (.reservedF) := by
  rfl

theorem WordValue.nop : WordValue.Statement (.nop) := by
  simp only [WordValue.Statement, encode, append_toNat, payload, Instr.opc, BitVec.toNat_ofNat]

theorem WordValue.init (rc : Bool) : WordValue.Statement (.init rc) := by
  simp only [WordValue.Statement, encode, append_toNat, ofBool_toNat, payload, Instr.opc, BitVec.toNat_ofNat]
  omega

theorem WordValue.calWrite (idx : BitVec 4) (code : Code) : WordValue.Statement (.calWrite idx code) := by
  simp only [WordValue.Statement, encode, append_toNat, payload, Instr.opc, BitVec.toNat_ofNat]
  omega

theorem WordValue.noteOn (note : Pitch) (velocity : BitVec 7) (amount : BitVec 7) (trigger : Bool) : WordValue.Statement (.noteOn note velocity amount trigger) := by
  simp only [WordValue.Statement, encode, append_toNat, ofBool_toNat, payload, Instr.opc, BitVec.toNat_ofNat]
  omega

theorem WordValue.noteOff : WordValue.Statement (.noteOff) := by
  simp only [WordValue.Statement, encode, append_toNat, payload, Instr.opc, BitVec.toNat_ofNat]

theorem WordValue.controlChange (controller : BitVec 7) (value : BitVec 7) : WordValue.Statement (.controlChange controller value) := by
  simp only [WordValue.Statement, encode, append_toNat, payload, Instr.opc, BitVec.toNat_ofNat]
  omega

theorem WordValue.pitchBend (bend : BitVec 14) : WordValue.Statement (.pitchBend bend) := by
  simp only [WordValue.Statement, encode, append_toNat, payload, Instr.opc, BitVec.toNat_ofNat]
  omega

theorem WordValue.cfgWrite (reg : BitVec 4) (data : BitVec 32) : WordValue.Statement (.cfgWrite reg data) := by
  simp only [WordValue.Statement, encode, append_toNat, payload, Instr.opc, BitVec.toNat_ofNat]
  omega

theorem WordValue.refresh : WordValue.Statement (.refresh) := by
  simp only [WordValue.Statement, encode, append_toNat, payload, Instr.opc, BitVec.toNat_ofNat]

theorem WordValue.rdNote : WordValue.Statement (.rdNote) := by
  simp only [WordValue.Statement, encode, append_toNat, payload, Instr.opc, BitVec.toNat_ofNat]

theorem WordValue.rdTrig : WordValue.Statement (.rdTrig) := by
  simp only [WordValue.Statement, encode, append_toNat, payload, Instr.opc, BitVec.toNat_ofNat]

theorem WordValue.rdAux (ch : BitVec 3) : WordValue.Statement (.rdAux ch) := by
  simp only [WordValue.Statement, encode, append_toNat, payload, Instr.opc, BitVec.toNat_ofNat]
  omega

theorem WordValue.rdStatus : WordValue.Statement (.rdStatus) := by
  simp only [WordValue.Statement, encode, append_toNat, payload, Instr.opc, BitVec.toNat_ofNat]

theorem WordValue.rdCal (idx : BitVec 4) : WordValue.Statement (.rdCal idx) := by
  simp only [WordValue.Statement, encode, append_toNat, payload, Instr.opc, BitVec.toNat_ofNat]
  omega

theorem WordValue.reservedE : WordValue.Statement (.reservedE) := by
  simp only [WordValue.Statement, encode, append_toNat, payload, Instr.opc, BitVec.toNat_ofNat]

theorem WordValue.reservedF : WordValue.Statement (.reservedF) := by
  simp only [WordValue.Statement, encode, append_toNat, payload, Instr.opc, BitVec.toNat_ofNat]

/-! The canonical form of a command (30_encoding R87). -/

theorem keptBits_le (reg : BitVec 4) : keptBits reg ≤ 32 := by
  unfold keptBits
  split <;> omega

/-- The kept data as a number: the low bits that the register has. -/
theorem keptData_toNat (reg : BitVec 4) (data : BitVec 32) :
    (keptData reg data).toNat = data.toNat % 2 ^ keptBits reg := by
  have h : data.toNat % 2 ^ keptBits reg < 2 ^ 32 := lt_of_le_of_lt (Nat.mod_le _ _) data.isLt
  rw [keptData, BitVec.toNat_ofNat, Nat.mod_eq_of_lt h]

@[simp] theorem keptData_keptData (reg : BitVec 4) (data : BitVec 32) :
    keptData reg (keptData reg data) = keptData reg data := by
  apply BitVec.eq_of_toNat_eq
  rw [keptData_toNat, keptData_toNat, Nat.mod_mod]

@[simp] theorem canonical_canonical (i : Instr) : i.canonical.canonical = i.canonical := by
  cases i <;> simp [Instr.canonical]

@[simp] theorem canonical_opc (i : Instr) : i.canonical.opc = i.opc := by
  cases i <;> rfl

end Sys2Proof.Laws
end

