-- ==== Sys2Proof/Tests/Slice0.lean ====
section
/-! SUPPORT. Tests: expected values from the spec (95_test_vectors and the examples of the rules, named at each), the
refusals of the well-formedness check, and for each statement with hypotheses a state that meets them. -/

namespace Sys2Proof.Tests

open Sys2Proof Sys2Proof.Machine

/-! ## The synthetic ROM set T0 (95_test_vectors section 1) and small states -/

/-- A table from a formula for its entries. -/
def table {w : Nat} (n : Nat) (entry : Nat → Int) : Vector (BitVec w) n :=
  ⟨((List.range n).map fun i => BitVec.ofInt w (entry i)).toArray, by simp⟩

/-- `ROM_TRIG_WAVE[0]` of T0. -/
def fall (i : Nat) : Int := ((32767 * (256 - i) ^ 2) >>> 16 : Nat)

/-- T0. -/
def t0 : Rom where
  portInc := table 128 fun i => (i + 1) * 2 ^ 23
  lfoInc := table 100 fun i => (i + 2) * 2 ^ 25
  envExpo := table 257 fun i => 65535 - ((65535 * (256 - i) ^ 2) >>> 16 : Nat)
  trigWave := #v[table 257 fall, table 257 fun i => if i % 2 = 0 then fall i else -fall i,
    table 257 fun i => if i < 256 then 32767 - (i >>> 6 : Nat) * 8191 else 0, table 257 fun _ => 16384]

/-- A voice after reset, with T0. -/
def voice : State := { State.reset with rom := t0 }

/-- What a property says of the state a step or a command answers with. -/
def gives (r : Host.Outcome State Fault Refusal) (p : State → Bool) : Bool :=
  match r with
  | .next t => p t
  | .fault _ => false
  | .refused _ => false

/-! ## The well-formedness check refuses what does not fit (30_encoding R84, R85) -/

theorem test_refuses_rc : (RawCommand.mk 0x1 [2]).wellFormed = false := by decide
theorem test_refuses_idx : (RawCommand.mk 0xD [16]).wellFormed = false := by decide
theorem test_refuses_code : (RawCommand.mk 0x2 [0, 65536]).wellFormed = false := by decide
theorem test_refuses_note_above : (RawCommand.mk 0x3 [32768, 0, 0, 0]).wellFormed = false := by decide
theorem test_refuses_note_below : (RawCommand.mk 0x3 [-32769, 0, 0, 0]).wellFormed = false := by decide
theorem test_refuses_velocity : (RawCommand.mk 0x3 [0, 128, 0, 0]).wellFormed = false := by decide
theorem test_refuses_amount : (RawCommand.mk 0x3 [0, 0, 128, 0]).wellFormed = false := by decide
theorem test_refuses_trigger : (RawCommand.mk 0x3 [0, 0, 0, -1]).wellFormed = false := by decide
theorem test_refuses_controller : (RawCommand.mk 0x5 [128, 0]).wellFormed = false := by decide
theorem test_refuses_value : (RawCommand.mk 0x5 [0, 128]).wellFormed = false := by decide
theorem test_refuses_bend : (RawCommand.mk 0x6 [16384]).wellFormed = false := by decide
theorem test_refuses_reg : (RawCommand.mk 0x7 [16, 0]).wellFormed = false := by decide
theorem test_refuses_data : (RawCommand.mk 0x7 [0, 4294967296]).wellFormed = false := by decide
theorem test_refuses_ch : (RawCommand.mk 0xB [8]).wellFormed = false := by decide
theorem test_refuses_missing_operand : (RawCommand.mk 0x7 [0]).wellFormed = false := by decide
theorem test_refuses_extra_operand : (RawCommand.mk 0x0 [0]).wellFormed = false := by decide
theorem test_accepts_extremes : (RawCommand.mk 0x3 [-32768, 127, 127, 1]).wellFormed = true := by decide

/-! ## Decoding and encoding: one word for every constructor, the words of 95_test_vectors section 3.1 -/

theorem test_decode_nop : decodeTableWord 40 0x0123456789 = some .nop := by decide
theorem test_decode_init : decodeTableWord 40 0x1000000001 = some (.init true) := by decide
theorem test_decode_init_reserved_bits : decodeTableWord 40 0x1FFFFFFFFE = some (.init false) := by decide
theorem test_decode_cal_write : decodeTableWord 40 0x20000A0CB8 = some (.calWrite 10 3256) := by decide
theorem test_decode_note_on : decodeTableWord 40 0x300CC02400 = some (.noteOn 9216 64 25 false) := by decide
theorem test_decode_note_on_signed :
    decodeTableWord 40 0x307FFFFF80 = some (.noteOn (BitVec.ofInt 16 (-128)) 127 127 true) := by decide
theorem test_decode_note_off : decodeTableWord 40 0x4000000000 = some .noteOff := by decide
theorem test_decode_control_change : decodeTableWord 40 0x50000001C0 = some (.controlChange 1 64) := by decide
theorem test_decode_pitch_bend : decodeTableWord 40 0x6000003FFF = some (.pitchBend 16383) := by decide
theorem test_decode_cfg_write : decodeTableWord 40 0x7412345678 = some (.cfgWrite 4 0x12345678) := by decide
theorem test_decode_refresh : decodeTableWord 40 0x8FFFFFFFFF = some .refresh := by decide
theorem test_decode_rd_note : decodeTableWord 40 0x9000000000 = some .rdNote := by decide
theorem test_decode_rd_trig : decodeTableWord 40 0xA000000000 = some .rdTrig := by decide
theorem test_decode_rd_aux : decodeTableWord 40 0xB000000006 = some (.rdAux 6) := by decide
theorem test_decode_rd_status : decodeTableWord 40 0xC000000000 = some .rdStatus := by decide
theorem test_decode_rd_cal : decodeTableWord 40 0xD000030000 = some (.rdCal 3) := by decide
theorem test_decode_reserved_e : decodeTableWord 40 0xE000000000 = some .reservedE := by decide
theorem test_decode_reserved_f : decodeTableWord 40 0xFFFFFFFFFF = some .reservedF := by decide
theorem test_decode_short : decodeBytes [0x40, 0, 0, 0] = .error (.truncated 4) := by decide
theorem test_encode_note_on : encode (.noteOn 7680 100 0 true) = 0x3040641E00 := by decide
theorem test_encode_cal_write : encode (.calWrite 0 54586) = 0x200000D53A := by decide
theorem test_encode_control_change : encode (.controlChange 4 1) = 0x5000000401 := by decide
theorem test_encode_rd_cal : encode (.rdCal 3) = 0xD000030000 := by decide
theorem test_encode_cfg_write : encode (.cfgWrite 7 1) = 0x7700000001 := by decide

/-- R87, on the rows that 95_test_vectors 3.1 lists as not canonical: the kept field of each, and the field 32 bits wide. -/
theorem test_encode_canonical :
    [0x70FFFFFFFF, 0x71FFFFFF0C, 0x76FFFFFFFE, 0x7412345678].map (fun w => encodeCanonical (decodeWord w)) =
      [0x700000007F, 0x710000000C, 0x7600000006, 0x7412345678] := by decide
theorem test_encode_bytes : encodeBytes (.pitchBend 8192) = [0x60, 0, 0, 0x20, 0] := by decide

/-! ## Arithmetic and units -/

/-- The examples of 00_scope R9. -/
theorem test_asr_floors : asr (-1) 6 = -1 ∧ asr (-65) 6 = -2 := by decide

/-- The example of 00_scope R10. -/
theorem test_tdiv_truncates : tdiv (-7) 2 = -3 := by decide

/-- 95_test_vectors 3.2, default table. -/
theorem test_quantize_default :
    [-5, 1, 1535, 8448, 15359, 20000].map (quantize defaultCal) = [54586, 54583, 49457, 26355, 3260, 3260] := by decide

/-- 95_test_vectors 3.2, the table that is not monotone. -/
theorem test_quantize_not_monotone :
    [2304, 6149, 9215, 9217, 10751].map (quantize #v[100, 200, 50, 300, 300, 0, 65535, 0, 1, 2, 3]) =
      [125, 300, 65492, 65493, 43] := by decide

/-- 95_test_vectors 3.3. -/
theorem test_interp824 :
    interp824 (envExpoAt voice) 0x00800000 = 255 ∧ interp824 (trigWaveAt voice 1) 0x00000100 = 32766 ∧
    interp824 (trigWaveAt voice 1) 0x00800000 = 128 ∧ interp824 (trigWaveAt voice 2) 0xFF800000 = 4097 := by
  decide +kernel

/-- 95_test_vectors 3.4, the formula alone. -/
theorem test_shape_b : shapeBIncrement 0x7FF 1 = 1 ∧ shapeBIncrement 0x155000 1 = 0x7FE00000 ∧
    shapeBIncrement 0x155800 1 = 0x7FFFFFFF ∧ shapeBIncrement 0xFFFFFFFF 65536 = 0x05FFF800 := by decide

/-- 95_test_vectors 3.6: the bend term is a floor. -/
theorem test_bend_term : bendTerm { voice with modPitchBend := 8159 } = -2 ∧
    bendTerm { voice with modPitchBend := 16383, pitchBendRange := 255 } = 32636 := by decide

/-- 95_test_vectors 3.7. -/
theorem test_lfo_wave : [0, 0x8000, 0x40000000, 0x7FFFFFFF, 0x80000000, 0x80008000, 0xC0000000, 0xFFFFFFFF].map lfoWave =
    [-32768, -32767, 0, 32767, 32767, 32766, -1, -32768] := by decide

/-- 95_test_vectors 3.7. -/
theorem test_vibrato_term : vibratoTerm (-32768) { voice with modWheel := 127, vibratoRange := 16 } = -2032 ∧
    vibratoTerm 32767 { voice with modWheel := 127, vibratoRange := 16 } = 2031 := by decide

/-! ## Commands, one step each -/

theorem test_nop : gives (exec .nop voice) (fun t => decide (t.lfoPhase = 0 ∧ t.rsp = none)) = true := by decide

/-- 95_test_vectors 3.11. -/
theorem test_init_0 : gives (exec (.init false)
      { voice with cal := voice.cal.set 5 30000, dirty := true, gate := true, lfoPhase := 9 })
    (fun t => decide (t.cal[5] = 30000 ∧ t.noteDacCode = 30000 ∧ t.dirty = false ∧ t.gate = false ∧ t.lfoPhase = 0)) = true := by
  decide

/-- 95_test_vectors 3.11. -/
theorem test_init_1 : gives (exec (.init true) { voice with cal := voice.cal.set 5 30000, dirty := true })
    (fun t => decide (t.cal = State.reset.cal ∧ t.noteDacCode = 28921 ∧ t.dirty = false)) = true := by decide

/-- The example of R103. -/
theorem test_cal_write : gives (exec (.calWrite 5 30000) voice)
    (fun t => decide (t.cal[5] = 30000 ∧ t.cal[4] = 34054 ∧ t.dirty = true ∧ t.noteDacCode = 28921)) = true := by decide

/-- 95_test_vectors 3.1: index 11 does nothing. -/
theorem test_cal_write_out_of_range : gives (exec (.calWrite 11 0x1234) voice)
    (fun t => decide (t.cal = voice.cal ∧ t.dirty = false)) = true := by decide

/-- 95_test_vectors P5 row 13: a retrigger of a gated voice. -/
theorem test_note_on_retrigger : gives (exec (.noteOn 7680 64 0 true)
      { voice with gate := true, triggerDuration := 63, triggerPhase := 0x40000000 })
    (fun t => decide (t.retriggerDelay = 2 ∧ t.triggerPulse = 504 ∧ t.triggerPhase = 0 ∧
      t.triggerPhaseIncrement = 0x20000000 ∧ t.modVelocity = 64 ∧ t.outputs.gateLevel = false)) = true := by decide

/-- 95_test_vectors 3.4: amount 51, to note 72. -/
theorem test_note_on_shape_b : gives (exec (.noteOn 9216 64 51 false) voice)
    (fun t => decide (t.portamentoPhaseIncrement = 0x007FE800 ∧ t.portamentoExponentialShape = false ∧
      t.noteSource = 7680 ∧ t.noteTarget = 9216 ∧ t.gate = true ∧ t.triggerPulse = 0)) = true := by decide

theorem test_note_off : gives (exec .noteOff { voice with gate := true, triggerPulse := 3 })
    (fun t => decide (t.gate = false ∧ t.triggerPulse = 3)) = true := by decide

/-- The example of R177. -/
theorem test_control_change_breath : gives (exec (.controlChange 2 64) voice)
    (fun t => decide (t.aux[2] = 32768 ∧ t.aux[3] = 0 ∧ t.modWheel = 0)) = true := by decide

/-- 95_test_vectors 3.1: controller 3 is ignored. -/
theorem test_control_change_ignored : gives (exec (.controlChange 3 64) voice)
    (fun t => decide (t.aux = voice.aux ∧ t.modWheel = 0)) = true := by decide

theorem test_pitch_bend : gives (exec (.pitchBend 12288) voice) (fun t => decide (t.modPitchBend = 12288)) = true := by
  decide

/-- The example of R179. -/
theorem test_cfg_write_tuning : gives (exec (.cfgWrite 3 0xFFFFFF80) voice)
    (fun t => decide (t.tuning.toInt = -128 ∧ t.dirty = false)) = true := by decide

/-- 95_test_vectors 3.1: `trigger_shape` keeps three bits. -/
theorem test_cfg_write_shape : gives (exec (.cfgWrite 6 0xFFFFFFFE) voice)
    (fun t => decide (t.triggerShape = 6 ∧ t.triggerScale = false)) = true := by decide

/-- 95_test_vectors P2 row 7. -/
theorem test_refresh_glide : gives (exec .refresh { voice with
      noteTarget := 9216, notePortamento := 8460, currentNote := 8460, portamentoPhase := 0x4C800000,
      portamentoPhaseIncrement := 0x19800000, portamentoExponentialShape := true })
    (fun t => decide (t.notePortamento = 8660 ∧ t.portamentoPhase = 0x66000000 ∧ t.noteDacCode = 25647)) = true := by
  decide +kernel

/-- 95_test_vectors P4 row 12. -/
theorem test_refresh_vibrato : gives (exec .refresh { voice with
      modulationRate := 30, vibratoRange := 16, modWheel := 127, lfoPhase := 0x40000000 })
    (fun t => decide (t.lfoPhase = 0x80000000 ∧ t.currentNote = 9711 ∧ t.noteDacCode = 22134 ∧ t.aux[5] = 65279 ∧
      t.aux[6] = 65535 ∧ t.aux[1] = 65024 ∧ t.aux[4] = 32768)) = true := by decide +kernel

theorem test_rd_note : gives (exec .rdNote voice) (fun t => decide (t.rsp = some 28921)) = true := by decide

/-- 95_test_vectors 3.9: a negative shape value. -/
theorem test_rd_trig_negative : gives (exec .rdTrig { voice with
      triggerPhase := 0x03000000, triggerPhaseIncrement := 0x01800000, triggerShape := 3 })
    (fun t => decide (t.rsp = some 64252)) = true := by decide +kernel

/-- 95_test_vectors 3.9, the increasing table: the code wraps. -/
theorem test_rd_trig_wraps : gives (exec .rdTrig { voice with
      cal := (voice.cal.set 3 20000).set 8 50000, triggerPhase := 0x03000000,
      triggerPhaseIncrement := 0x01800000, triggerShape := 3 })
    (fun t => decide (t.rsp = some 56236)) = true := by decide +kernel

theorem test_rd_aux : gives (exec (.rdAux 3) { voice with aux := voice.aux.set 3 65024 })
    (fun t => decide (t.rsp = some 65024)) = true := by decide

/-- 95_test_vectors P5 row 14. -/
theorem test_rd_status : gives (exec .rdStatus { voice with gate := true, retriggerDelay := 2, triggerPulse := 504 })
    (fun t => decide (t.rsp = some 6)) = true := by decide

/-- 95_test_vectors 3.1: index 15 reads entry 10. -/
theorem test_rd_cal_clamped : gives (exec (.rdCal 15) voice) (fun t => decide (t.rsp = some 3256)) = true := by decide

theorem test_reserved_e : gives (exec .reservedE { voice with lfoPhase := 5 })
    (fun t => decide (t.lfoPhase = 5 ∧ t.rsp = none)) = true := by decide

theorem test_reserved_f : gives (exec .reservedF { voice with lfoPhase := 5 })
    (fun t => decide (t.lfoPhase = 5 ∧ t.rsp = none)) = true := by decide

/-- 95_test_vectors 3.1: the first REFRESH after INIT, from its word. -/
theorem test_step_refresh : gives (step (voice.withFetchWord 40 0x8FFFFFFFFF))
    (fun t => decide (t.lfoPhase = 0x04000000 ∧ t.aux = #v[0, 0, 0, 0, 32768, 32768, 2048, 0] ∧ t.hostStream = [])) =
      true := by decide +kernel

/-- 44_trigger R165, its example, as a run of two words from reset. -/
theorem test_run_status : (runFromReset [0x3040641E00, 0xC000000000]).map (·.response) = [none, some 7] := by
  decide +kernel

/-! ## Assembler (30_encoding R88, R89) -/

theorem test_assemble_note_on :
    assembleWords "NOTE_ON 60<<7, 100, 0, 1 ; middle C".toList = .ok [0x3040641E00] := by decide +kernel
/-- R87: an assembler writes the ignored bits of `data` as zero (45_events R179 names the canonical word). -/
theorem test_assemble_hex : assembleWords "CFG_WRITE 3, 0xFFFFFF80".toList = .ok [0x730000FF80] := by decide +kernel
theorem test_assemble_signed : assembleWords "SET_TUNING -128".toList = .ok [0x730000FF80] := by decide +kernel
theorem test_assemble_ticks : assembleWords "TICKS 2".toList = .ok [0x8000000000, 0x8000000000] := by decide +kernel
theorem test_assemble_calibrate :
    (assembleWords "CALIBRATE 1,2,3,4,5,6,7,8,9,10,11".toList).map (·.drop 9) = .ok [0x200009000A, 0x20000A000B] := by
  decide +kernel
theorem test_assemble_blank : assembleWords "  ; nothing".toList = .ok [] := by decide +kernel
theorem test_assemble_unknown : assembleWords "JUMP 3".toList = .error .unknownMnemonic := by decide +kernel
theorem test_assemble_out_of_range : assembleWords "RD_AUX 8".toList = .error .operandsDoNotFit := by decide +kernel

/-! ## For each statement with hypotheses, what meets them -/

theorem witness_DecodeOfEncode : (Instr.noteOn (BitVec.ofInt 16 (-32768)) 127 127 true).WellFormed := by decide

theorem witness_IgnoredBitsDoNothing :
    (0x8000000000#40 ≠ 0x8FFFFFFFFF ∧
      0x8000000000#40 &&& meaningfulBits (decodeWord 0x8000000000) =
        0x8FFFFFFFFF &&& meaningfulBits (decodeWord 0x8000000000)) ∧
    (0xFFFFFFFF#32).toNat % 2 ^ keptBits 0 = (0x7F#32).toNat % 2 ^ keptBits 0 ∧
    (0xFFFFFFFF#32).toNat % 2 ^ keptBits 8 = (0#32).toNat % 2 ^ keptBits 8 ∧
    (6#4).toNat ≤ 7 ∧ Instr.cfgWrite 6 0xFFFFFFFE = decodeWord 0x76FFFFFFFE ∧ (7#4).toNat ≤ 7 := by decide

/-- A line that assembles, for the clause of `IgnoredBitsDoNothing` on the assembler. -/
theorem witness_IgnoredBitsDoNothing_line :
    assembleWords "CFG_WRITE 0, 0xFFFFFFFF".toList = .ok [0x700000007F] := by decide +kernel

/-- The hypothesis on the opcode field that the decoding clauses have, for each of the sixteen opcodes, at the least and
the greatest word. -/
theorem witness_opcode_words : ∀ k : Fin 16,
    (BitVec.ofNat 40 (k.val * 2 ^ 36)).toNat / 2 ^ 36 = k.val ∧
    (BitVec.ofNat 40 (k.val * 2 ^ 36 + (2 ^ 36 - 1))).toNat / 2 ^ 36 = k.val := by decide

theorem witness_StepRunsDecodedCommand :
    (voice.withFetchWord 40 0x8000000000).hostStream = .command 0x8000000000 :: [] := by decide

theorem witness_IdleAndResetPulseSteps :
    voice.hostStream = [] ∧
    ({ voice with hostStream := [.resetPulse, .command 0] } : State).hostStream = .resetPulse :: [.command 0] := by decide

theorem witness_QuantizeInterpolates : (0 + 1 < 11 ∧ min (max (-5) 0) 15359 / 1536 = ((0 : Nat) : Int)) ∧
    (0 + 1 < 11 ∧ min (max 1535 0) 15359 / 1536 = ((0 : Nat) : Int)) ∧
    9 + 1 < 11 ∧ min (max 20000 0) 15359 / 1536 = ((9 : Nat) : Int) := by decide

theorem witness_QuantizeEdges : (0 : Int) ≤ 0 ∧ (15360 : Int) ≤ 15360 ∧ 0 < 10 ∧ 9 < 10 := by decide

theorem witness_QuantizeMonotone :
    ((-1 : Int) ≤ 20000 ∧ ∀ i : Fin 10, (#v[0, 1, 2, 3, 4, 5, 6, 7, 8, 9, 10] : Vector Code 11)[i.val].toNat ≤
      (#v[0, 1, 2, 3, 4, 5, 6, 7, 8, 9, 10] : Vector Code 11)[i.val + 1].toNat) ∧
    ∀ i : Fin 10, State.reset.cal[i.val + 1].toNat ≤ State.reset.cal[i.val].toNat := by decide

theorem witness_OctaveLoopDivides : 0 ≤ 15359 ∧ 15359 ≤ 15359 := by decide

/-- CAL_WRITE, RD_CAL and the stale code: the last entry and the first index beyond. -/
theorem witness_calibration_indices : (10#4).toNat < 11 ∧ 11 ≤ (11#4).toNat ∧ (10#4).toNat ≤ 10 ∧ 11 ≤ (15#4).toNat := by
  decide

theorem witness_NoteOnResult : (50#7).toNat ≤ 50 ∧ (0#7).toNat ≤ 50 ∧
    ((51 ≤ 51 ∧ 51 ≤ 100) ∧ 51 = min (51#7).toNat 100) ∧ (51 ≤ 100 ∧ 100 ≤ 100) ∧ 100 = min (127#7).toNat 100 := by decide

theorem witness_ShapeBIncrementBounds : 1 ≤ 1 ∧ (2047#32).toNat < 2048 ∧ 2 ^ 21 ≤ (0x200000#32).toNat ∧
    (2048 ≤ (2048#32).toNat ∧ (2048#32).toNat < 2 ^ 31) ∧ 2048 ≤ (0x7FFFFFFF#32).toNat ∧ (0x7FFFFFFF#32).toNat < 2 ^ 31 := by
  decide

/-- The hypothesis `exec .refresh s = .next t` that the statements about a tick have. -/
theorem witness_refresh_answers : ∃ t, exec .refresh voice = .next t := ⟨_, rfl⟩

/-- A voice that is half-way through a ramp, one that completes it with the next tick, by exactly 2^32. -/
def ramping (phase inc : Phase) : State :=
  { voice with portamentoPhase := phase, portamentoPhaseIncrement := inc, triggerPhase := phase, triggerPhaseIncrement := inc }

theorem witness_RefreshAdvancesGlide :
    ((∃ t, exec .refresh (ramping 0xFF000000 0x01000000) = .next t) ∧
      (0xFF000000 + 0x01000000) % 2 ^ 32 < (ramping 0xFF000000 0x01000000).portamentoPhaseIncrement.toNat) ∧
    (∃ t, exec .refresh (ramping 0xFEFFFFFF 0x01000000) = .next t) ∧
      (ramping 0xFEFFFFFF 0x01000000).portamentoPhaseIncrement.toNat ≤ (0xFEFFFFFF + 0x01000000) % 2 ^ 32 ∧
      0 < (ramping 0xFEFFFFFF 0x01000000).portamentoPhaseIncrement.toNat := by
  refine ⟨⟨⟨_, rfl⟩, ?_⟩, ⟨_, rfl⟩, ?_, ?_⟩ <;> decide

theorem witness_RefreshAdvancesTriggerUnit :
    ((∃ t, exec .refresh (ramping 0xFF000000 0x01000000) = .next t) ∧
      (0xFF000000 + 0x01000000) % 2 ^ 32 < (ramping 0xFF000000 0x01000000).triggerPhaseIncrement.toNat) ∧
    (∃ t, exec .refresh (ramping 0 0) = .next t) ∧ (ramping 0 0).triggerPhaseIncrement.toNat ≤ (0 + 0) % 2 ^ 32 := by
  refine ⟨⟨⟨_, rfl⟩, ?_⟩, ⟨_, rfl⟩, ?_⟩ <;> decide

/-- Shape B: the level of the stepped phase. -/
theorem witness_RefreshInterpolatesPitch_linear :
    ∃ t, exec .refresh (ramping 0x10000000 0x01000000) = .next t ∧
      (ramping 0x10000000 0x01000000).portamentoExponentialShape = false ∧
      (0x1100 : Int) = (t.portamentoPhase.toNat / 2 ^ 16 : Nat) := ⟨_, rfl, by decide, by decide⟩

/-- Shape A: the level of T0 at an entry of the table, 28672 (95_test_vectors 3.3). -/
theorem witness_RefreshInterpolatesPitch_curve :
    ∃ t, exec .refresh { ramping 0x3F000000 0x01000000 with portamentoExponentialShape := true } = .next t ∧
      64 = t.portamentoPhase.toNat / 2 ^ 24 ∧ 64 + 1 < 257 ∧
      (28672 : Int) = (t0.envExpo[64].toNat : Int) + ((t0.envExpo[65].toNat : Int) - (t0.envExpo[64].toNat : Int)) *
        (t.portamentoPhase.toNat / 2 ^ 8 % 2 ^ 16 : Nat) / 2 ^ 16 :=
  ⟨_, rfl, by decide, by decide, by decide +kernel⟩

theorem witness_GlideDuration : (ramping 0 0x40000000).portamentoPhase = 0 ∧
    (ramping 0 0x40000000).portamentoPhaseIncrement ≠ 0 ∧
    3 * (ramping 0 0x40000000).portamentoPhaseIncrement.toNat < 2 ^ 32 ∧
    2 ^ 32 ≤ 4 * (ramping 0 0x40000000).portamentoPhaseIncrement.toNat := by decide

theorem witness_EnvelopeDuration : (ramping 0 0x40000000).triggerPhase = 0 ∧
    3 * (ramping 0 0x40000000).triggerPhaseIncrement.toNat < 2 ^ 32 ∧
    2 ^ 32 ≤ 4 * (ramping 0 0x40000000).triggerPhaseIncrement.toNat ∧
    (ramping 0 0).triggerPhase = 0 ∧ (ramping 0 0).triggerPhaseIncrement = 0 := by decide

theorem witness_ZeroIncrementGlideStalls :
    ({ voice with portamentoExponentialShape := true } : State).portamentoPhase = 0 ∧
    ({ voice with portamentoExponentialShape := true } : State).portamentoPhaseIncrement = 0 ∧
    ({ voice with portamentoExponentialShape := true } : State).portamentoExponentialShape = true := by decide

/-- A tick that must recompute because `dirty` is set, and one that must not. -/
theorem witness_RefreshPublishesComposedPitch :
    (∃ t, exec .refresh { voice with dirty := true } = .next t ∧ ({ voice with dirty := true } : State).dirty = true) ∧
    ∃ t, exec .refresh voice = .next t ∧ voice.dirty = false ∧
      t.notePortamento.toInt + ((voice.modPitchBend.toNat : Int) - 8192) * voice.pitchBendRange.toNat / 2 ^ 6 +
        voice.tuning.toInt + lfoWave t.lfoPhase * voice.modWheel.toNat * voice.vibratoRange.toNat / 2 ^ 15 =
          voice.currentNote.toInt :=
  ⟨⟨_, rfl, rfl⟩, _, rfl, rfl, by decide +kernel⟩

/-- A good state, for the statements that suppose one. -/
theorem witness_good : GoodState { voice with gate := true, retriggerDelay := 2, triggerPulse := 1016 } :=
  ⟨fun _ => by decide, by decide, by decide, by decide, by decide, by decide, fun _ => rfl, fun _ => rfl⟩

theorem witness_RefreshPitchBoundsAndFreshCode : GoodState { voice with gate := true, retriggerDelay := 2, triggerPulse := 1016 } ∧
    ∃ t, exec .refresh { voice with gate := true, retriggerDelay := 2, triggerPulse := 1016 } = .next t :=
  ⟨witness_good, _, rfl⟩

theorem witness_StepKeepsGoodState : GoodState { voice with gate := true, retriggerDelay := 2, triggerPulse := 1016 } ∧
    ∃ t, step { voice with gate := true, retriggerDelay := 2, triggerPulse := 1016 } = .next t := ⟨witness_good, _, rfl⟩

theorem witness_RefreshAdvancesLfo :
    ((∃ t, exec .refresh { voice with modulationRate := 99 } = .next t) ∧ (99#7).toNat < 100) ∧
    (∃ t, exec .refresh { voice with modulationRate := 100 } = .next t) ∧ 100 ≤ (100#7).toNat := by
  refine ⟨⟨⟨_, rfl⟩, ?_⟩, ⟨_, rfl⟩, ?_⟩ <;> decide

theorem witness_LfoWaveIsTriangle : (0x7FFFFFFF#32).toNat < 2 ^ 31 ∧ 2 ^ 31 ≤ (0x80000000#32).toNat := by decide

/-- The three ways the shape value is fixed: square, linear, and curve table 3 by the reserved shape 7, at the first phase
past one increment, and the last phase of the zero test, equal to the increment. -/
theorem witness_TrigCodeValue :
    ({ ramping 0x01800001 0x01800000 with triggerShape := 0 } : State).triggerShape = 0 ∧
    (0x01800000 : Nat) < 0x01800001 ∧
    (ramping 0x01800000 0x01800000).triggerPhase.toNat = (ramping 0x01800000 0x01800000).triggerPhaseIncrement.toNat ∧
    (32767 - 192 : Int) = 32767 - ((0x01800001 : Nat) / 2 ^ 17 : Nat) ∧
    3 = min ((7#3).toNat - 2) 3 ∧ 2 ≤ (7#3).toNat ∧
    (16384 : Int) = t0.trigWave[3][1].toInt + (t0.trigWave[3][2].toInt - t0.trigWave[3][1].toInt) *
      ((0x01800001 : Nat) / 2 ^ 8 % 2 ^ 16 : Nat) / 2 ^ 16 := by decide +kernel

theorem witness_TrigCodeDependsOnlyOn :
    ({ voice with gate := true, triggerPulse := 9 } : State).triggerPhase = voice.triggerPhase ∧
    ({ voice with gate := true, triggerPulse := 9 } : State) ≠ voice := by
  refine ⟨rfl, fun h => ?_⟩
  have := congrArg State.gate h
  revert this
  decide

theorem witness_RetriggerGapIsTwoTicks : ({ voice with gate := true } : State).gate = true := rfl

theorem witness_CfgWriteResult : 8 ≤ (8#4).toNat ∧ 8 ≤ (15#4).toNat ∧ (0#4).toNat ≤ 5 ∧ (5#4).toNat ≤ 5 := by decide

/-- A channel that a command other than REFRESH and INIT changes, for the clause of `RefreshUpdatesAux` on writers. -/
theorem witness_RefreshUpdatesAux : (∃ t, exec (.controlChange 2 64) voice = .next t ∧ t.aux[2] ≠ voice.aux[2]) ∧
    (∃ t, exec (.controlChange 4 127) voice = .next t ∧ t.aux[3] ≠ voice.aux[3]) ∧
    Instr.controlChange 2 64 ≠ .refresh ∧ ∀ rc, Instr.controlChange 2 64 ≠ .init rc := by
  refine ⟨⟨_, rfl, ?_⟩, ⟨_, rfl, ?_⟩, ?_, ?_⟩ <;> decide

theorem witness_OnlyReadsRespond :
    (∃ t, exec .rdNote voice = .next t) ∧ 9 ≤ Instr.rdNote.opc.toNat ∧ Instr.rdNote.opc.toNat ≤ 13 ∧
    (∃ t, exec (.rdCal 0) voice = .next t) ∧ 9 ≤ (Instr.rdCal 0).opc.toNat ∧ (Instr.rdCal 0).opc.toNat ≤ 13 :=
  ⟨⟨_, rfl⟩, by decide, by decide, ⟨_, rfl⟩, by decide, by decide⟩

/-- `exec i s = .next t`, for the statements on who writes `gate` and `dirty`. -/
theorem witness_writers : (∃ t, exec (.noteOn 0 0 0 true) voice = .next t) ∧ ∃ t, exec (.calWrite 10 0) voice = .next t :=
  ⟨⟨_, rfl⟩, _, rfl⟩

theorem witness_CalibrationWriters : ∃ t, exec (.calWrite 10 0) voice = .next t ∧ t.cal[10] ≠ voice.cal[10] :=
  ⟨_, rfl, by decide⟩

theorem witness_LfoPhaseWriters : (∃ t, exec .noteOff voice = .next t) ∧ Instr.noteOff ≠ .refresh ∧
    ∀ rc, Instr.noteOff ≠ .init rc := ⟨⟨_, rfl⟩, by decide, by decide⟩

theorem witness_RomsNeverChange : ∃ t, step (voice.withFetchWord 40 0x8000000000) = .next t := ⟨_, rfl⟩

theorem witness_VoicesAreIndependent : (1 : Fin 8) ≠ 0 := by decide

end Sys2Proof.Tests
end

/-! The encoding (30_encoding R83 to R87): a command word and the command it stands for determine each other up to the
reserved bits. -/

namespace Sys2Proof.Laws

open Sys2Proof.Machine

/-! Fields of a word as equations between numbers (00_scope R6). -/

theorem slice_eq_iff {w len : Nat} (v : BitVec w) (lo : Nat) (x : BitVec len) :
    slice v lo len = x ↔ v.toNat / 2 ^ lo % 2 ^ len = x.toNat := by
  rw [← BitVec.toNat_inj, slice_toNat]

theorem getLsbD_eq_iff {w : Nat} (v : BitVec w) (i : Nat) (b : Bool) :
    v.getLsbD i = b ↔ v.toNat / 2 ^ i % 2 = b.toNat := by
  rw [← bit_toNat]
  cases v.getLsbD i <;> cases b <;> decide

/-- A field read as two's complement (00_scope R7). -/
theorem slice_toInt {w : Nat} (v : BitVec w) (lo len : Nat) :
    (slice v lo (len + 1)).toInt =
      if v.toNat / 2 ^ lo % 2 ^ (len + 1) < 2 ^ len then ((v.toNat / 2 ^ lo % 2 ^ (len + 1) : Nat) : Int)
      else ((v.toNat / 2 ^ lo % 2 ^ (len + 1) : Nat) : Int) - 2 ^ (len + 1) := by
  rw [BitVec.toInt_eq_toNat_cond, slice_toNat]
  have hdouble : 2 ^ (len + 1) = 2 * 2 ^ len := by ring
  split <;> split <;> push_cast <;> omega

/-- A mask of low ones keeps a remainder. -/
theorem and_ones_eq_mod (n : Nat) {m k : Nat} (h : m + 1 = 2 ^ k) : n &&& m = n % 2 ^ k := by
  rw [← Nat.and_two_pow_sub_one_eq_mod, ← h, Nat.add_sub_cancel]

/-- A mask of ones from bit `k` up to `k + len - 1`, above a mask of the low bits, keeps that field and what the low
mask keeps. -/
theorem and_field_above (n : Nat) {m low k len : Nat} (hlow : low < 2 ^ k) (h : low + 2 ^ k * (2 ^ len - 1) = m) :
    n &&& m = n / 2 ^ k % 2 ^ len * 2 ^ k + (n % 2 ^ k &&& low) := by
  obtain ⟨hdiv, hmod⟩ := (Nat.div_mod_unique (Nat.two_pow_pos k)).2 ⟨h, hlow⟩
  rw [← Nat.div_add_mod' (n &&& m) (2 ^ k), Nat.and_div_two_pow, Nat.and_mod_two_pow, hdiv, hmod,
    Nat.and_two_pow_sub_one_eq_mod]

/-! The encoder writes the opcode above the operands, the decoder reads it there. -/

/-- `WordValue` for every command. -/
theorem encode_toNat (i : Instr) : (encode i).toNat = i.opc.toNat * 2 ^ 36 + payload i := by
  cases i with
  | nop => exact WordValue.nop
  | init rc => exact WordValue.init rc
  | calWrite idx code => exact WordValue.calWrite idx code
  | noteOn note velocity amount trigger => exact WordValue.noteOn note velocity amount trigger
  | noteOff => exact WordValue.noteOff
  | controlChange controller value => exact WordValue.controlChange controller value
  | pitchBend bend => exact WordValue.pitchBend bend
  | cfgWrite reg data => exact WordValue.cfgWrite reg data
  | refresh => exact WordValue.refresh
  | rdNote => exact WordValue.rdNote
  | rdTrig => exact WordValue.rdTrig
  | rdAux ch => exact WordValue.rdAux ch
  | rdStatus => exact WordValue.rdStatus
  | rdCal idx => exact WordValue.rdCal idx
  | reservedE => exact WordValue.reservedE
  | reservedF => exact WordValue.reservedF

theorem payload_lt (i : Instr) : payload i < 2 ^ 36 := by
  cases i with
  | init rc =>
    have := rc.toNat_lt
    simp only [payload]
    omega
  | noteOn note velocity amount trigger =>
    have := trigger.toNat_lt
    simp only [payload]
    omega
  | _ =>
    simp only [payload]
    omega

@[simp] theorem slice_encode_opc (i : Instr) : slice (encode i) 36 4 = i.opc := by
  have hlow := payload_lt i
  rw [slice_eq_iff, encode_toNat]
  omega

@[simp] theorem decodeWord_opc (w : CmdWord) : (decodeWord w).opc = slice w 36 4 := by
  have hlt := (slice w 36 4).isLt
  apply BitVec.eq_of_toNat_eq
  unfold decodeWord
  split <;> simp only [Instr.opc, BitVec.toNat_ofNat] <;> grind

/-- Decoding the word of a command gives the command back: each operand stands where the decoder reads it. -/
@[simp] theorem decodeWord_encode (i : Instr) : decodeWord (encode i) = i := by
  have hopc := slice_encode_opc i
  have hval := encode_toNat i
  cases i with
  | nop | noteOff | refresh | rdNote | rdTrig | rdStatus | reservedE | reservedF => rfl
  | init rc =>
    have hrc := rc.toNat_lt
    simp only [Instr.opc, payload] at hopc hval
    simp only [decodeWord, hopc, BitVec.reduceToNat, getLsbD_eq_iff, hval, Instr.init.injEq]
    omega
  | noteOn note velocity amount trigger =>
    have htrigger := trigger.toNat_lt
    simp only [Instr.opc, payload] at hopc hval
    simp only [decodeWord, hopc, BitVec.reduceToNat, slice_eq_iff, getLsbD_eq_iff, hval, Instr.noteOn.injEq]
    omega
  | calWrite idx code | controlChange controller value | pitchBend bend | cfgWrite reg data | rdAux ch | rdCal idx =>
    simp only [Instr.opc, payload] at hopc hval
    simp only [decodeWord, hopc, BitVec.reduceToNat, slice_eq_iff, hval, Instr.calWrite.injEq,
      Instr.controlChange.injEq, Instr.pitchBend.injEq, Instr.cfgWrite.injEq, Instr.rdAux.injEq, Instr.rdCal.injEq]
    omega

/-! The bits of a word that carry the command (30_encoding R83, R87). -/

theorem meaningfulBits_opcode (i : Instr) : (meaningfulBits i).toNat / 2 ^ 36 = 2 ^ 4 - 1 := by
  cases i <;> simp [meaningfulBits]

@[simp] theorem meaningfulBits_canonical (i : Instr) : meaningfulBits i.canonical = meaningfulBits i := by
  cases i <;> rfl

/-- The opcode field is among the meaningful bits of every command. -/
theorem slice_and_meaningfulBits_opcode (w : CmdWord) (i : Instr) :
    slice (w &&& meaningfulBits i) 36 4 = slice w 36 4 := by
  have hlt := w.isLt
  rw [slice_eq_iff, opcode_toNat, BitVec.toNat_and, Nat.and_div_two_pow, meaningfulBits_opcode,
    Nat.and_two_pow_sub_one_eq_mod]
  omega

/-- Which bits are meaningful is a matter of the opcode alone. -/
theorem meaningfulBits_decodeWord_congr {w w' : CmdWord} (h : slice w 36 4 = slice w' 36 4) :
    meaningfulBits (decodeWord w) = meaningfulBits (decodeWord w') := by
  simp only [decodeWord, h]
  split <;> rfl

theorem payload_decodeWord (w : CmdWord) :
    payload (decodeWord w) = (w.toNat &&& (meaningfulBits (decodeWord w)).toNat) % 2 ^ 36 := by
  rw [Nat.and_mod_two_pow]
  unfold decodeWord
  split <;> simp only [payload, meaningfulBits, slice_toNat, bit_toNat, BitVec.reduceToNat, Nat.reducePow,
    Nat.reduceMod, Nat.and_zero]
  case h_2 => -- INIT
    rw [and_ones_eq_mod _ (m := 1) (k := 1) rfl]
    omega
  case h_3 => -- CAL_WRITE
    rw [and_ones_eq_mod _ (m := 0xFFFFF) (k := 20) rfl]
    omega
  case h_4 => -- NOTE_ON
    rw [and_ones_eq_mod _ (m := 0x7FFFFFFF) (k := 31) rfl]
    omega
  case h_6 => -- CONTROL_CHANGE
    rw [and_field_above _ (m := 0x7F7F) (low := 0x7F) (k := 8) (len := 7) (by omega) rfl,
      and_ones_eq_mod _ (m := 0x7F) (k := 7) rfl]
    omega
  case h_7 => -- PITCH_BEND
    rw [and_ones_eq_mod _ (m := 0x3FFF) (k := 14) rfl]
    omega
  case h_8 => -- CFG_WRITE
    rw [and_ones_eq_mod _ (m := 0xFFFFFFFFF) (k := 36) rfl]
    omega
  case h_12 => -- RD_AUX
    rw [and_ones_eq_mod _ (m := 7) (k := 3) rfl]
    omega
  case h_14 => -- RD_CAL
    rw [and_field_above _ (m := 0xF0000) (low := 0) (k := 16) (len := 4) (by omega) rfl, Nat.and_zero]
    omega

/-- Encoding what a word decodes to keeps its meaningful bits and clears the others. -/
theorem encode_decodeWord (w : CmdWord) : encode (decodeWord w) = w &&& meaningfulBits (decodeWord w) := by
  have hopc : (w &&& meaningfulBits (decodeWord w)).toNat / 2 ^ 36 = (decodeWord w).opc.toNat := by
    rw [← opcode_toNat, slice_and_meaningfulBits_opcode, decodeWord_opc]
  apply BitVec.eq_of_toNat_eq
  rw [encode_toNat, payload_decodeWord, ← hopc, ← BitVec.toNat_and, Nat.div_add_mod']

/-- Words that agree on the meaningful bits of one of them decode to the same command. -/
theorem decodeWord_eq_of_meaningfulBits {w w' : CmdWord}
    (h : w &&& meaningfulBits (decodeWord w) = w' &&& meaningfulBits (decodeWord w)) : decodeWord w' = decodeWord w := by
  have hopc : slice w' 36 4 = slice w 36 4 := by
    rw [← slice_and_meaningfulBits_opcode w' (decodeWord w), ← h, slice_and_meaningfulBits_opcode]
  have hword : encode (decodeWord w') = encode (decodeWord w) := by
    rw [encode_decodeWord, encode_decodeWord, meaningfulBits_decodeWord_congr hopc, h]
  rw [← decodeWord_encode (decodeWord w'), hword, decodeWord_encode]

/-- The encoder writes no bit that is not meaningful. -/
theorem encode_and_not_meaningfulBits (i : Instr) : encode i &&& ~~~meaningfulBits i = 0 := by
  have hencode : encode i = encode i &&& meaningfulBits i := by
    simpa using encode_decodeWord (encode i)
  rw [hencode, BitVec.and_assoc, BitVec.and_not_self]
  simp

/-! The bits of `data` that a register ignores (30_encoding R87, 45_events R179). -/

theorem keptData_eq_iff (reg : BitVec 4) (data data' : BitVec 32) :
    keptData reg data = keptData reg data' ↔ data.toNat % 2 ^ keptBits reg = data'.toNat % 2 ^ keptBits reg := by
  rw [← BitVec.toNat_inj, keptData_toNat, keptData_toNat]

/-- A field of the data that lies in the kept bits is a field of the kept data. -/
theorem slice_keptData {reg : BitVec 4} {len : Nat} (data : BitVec 32) (h : len ≤ keptBits reg) :
    slice (keptData reg data) 0 len = slice data 0 len := by
  rw [slice_eq_iff, slice_toNat, keptData_toNat, Nat.pow_zero, Nat.div_one, Nat.div_one,
    Nat.mod_mod_of_dvd _ (Nat.pow_dvd_pow 2 h)]

theorem getLsbD_zero_keptData {reg : BitVec 4} (data : BitVec 32) (h : 1 ≤ keptBits reg) :
    (keptData reg data).getLsbD 0 = data.getLsbD 0 := by
  rw [getLsbD_eq_iff, bit_toNat, keptData_toNat, Nat.pow_zero, Nat.div_one, Nat.div_one,
    Nat.mod_mod_of_dvd _ (dvd_pow_self 2 (by omega))]

theorem keptData_of_full {reg : BitVec 4} (data : BitVec 32) (h : keptBits reg = 32) : keptData reg data = data := by
  apply BitVec.eq_of_toNat_eq
  rw [keptData_toNat, h, Nat.mod_eq_of_lt data.isLt]

/-- CFG_WRITE reads no other bits of its data than the register keeps. -/
theorem cfgState_keptData (reg : BitVec 4) (data : BitVec 32) (s : State) :
    cfgState reg (keptData reg data) s = cfgState reg data s := by
  unfold cfgState
  split
  case h_5 hreg => rw [keptData_of_full data (by simp [keptBits, hreg])]
  case h_8 hreg => simp [data1, getLsbD_zero_keptData, keptBits, hreg, -BitVec.getLsbD_eq_getElem]
  case h_1 hreg | h_2 hreg | h_3 hreg | h_4 hreg | h_6 hreg | h_7 hreg =>
    simp only [data3, data7, data8, data16, keptBits, hreg, slice_keptData, Nat.reduceLeDiff]
  case h_9 => rfl

theorem exec_canonical (i : Instr) (s : State) : exec i.canonical s = exec i s := by
  cases i with
  | cfgWrite reg data =>
    change silent (cfgState reg (keptData reg data) s) = silent (cfgState reg data s)
    rw [cfgState_keptData]
  | _ => rfl

/-- The data field of the canonical word of a CFG_WRITE holds the kept bits. -/
theorem encodeCanonical_cfgWrite_data (reg : BitVec 4) (data : BitVec 32) :
    (encodeCanonical (.cfgWrite reg data)).toNat % 2 ^ 32 = data.toNat % 2 ^ keptBits reg := by
  have hlt := (keptData reg data).isLt
  rw [← keptData_toNat, encodeCanonical, encode_toNat]
  simp only [Instr.canonical, payload]
  omega

/-! A step on a presented word (30_encoding R81). -/

theorem step_command (w : CmdWord) (s : State) (rest : List PortEvent) :
    step { s with hostStream := .command w :: rest } = exec (decodeWord w) { s with hostStream := rest } := rfl

theorem assembleWords_eq_ok {line : List Char} {words : List CmdWord} (h : assembleWords line = .ok words) :
    ∃ commands, assembleLine line = .ok commands ∧ words = commands.map encodeCanonical := by
  unfold assembleWords at h
  cases hline : assembleLine line with
  | error e =>
    rw [hline] at h
    cases h
  | ok commands =>
    rw [hline] at h
    cases h
    exact ⟨commands, rfl, rfl⟩

/-! The operands of a decoded word (30_encoding R84). -/

theorem operandField_in_range (o : Operand) (w : CmdWord) :
    o.range.1 ≤ operandField o w ∧ operandField o w ≤ o.range.2 := by
  cases o <;> simp only [Operand.range, operandField] <;> omega

theorem operandValues_decodeWord (w : CmdWord) :
    (decodeWord w).operandValues = (operandsOf (decodeWord w).opc).map (operandField · w) := by
  have hnote := slice_toInt w 0 15
  unfold decodeWord
  split <;> simp only [Instr.operandValues, Instr.opc, operandsOf, BitVec.reduceToNat, List.map_cons, List.map_nil,
    operandField, slice_toNat, bit_toNat, hnote, Nat.pow_zero, Nat.div_one]

/-- Settles O3: the meaningful bits of a word determine its command, CFG_WRITE reads only the kept bits of its data, and
the canonical encoding is the encoder's word of a command that executes alike. -/
theorem ignoredBitsDoNothing : Obligations.IgnoredBitsDoNothing := by
  refine ⟨fun w w' s rest h => ?_, fun reg data data' s h => ?_, fun i => ⟨?_, ?_⟩, fun w s rest => ?_,
    fun line words h => assembleWords_eq_ok h⟩
  · have hdecode := decodeWord_eq_of_meaningfulBits h
    exact ⟨hdecode, by rw [step_command, step_command, hdecode]⟩
  · have hkept := (keptData_eq_iff reg data data').2 h
    rw [← exec_canonical (.cfgWrite reg data), ← exec_canonical (.cfgWrite reg data')]
    simp only [Instr.canonical, hkept]
  · rw [encodeCanonical, ← meaningfulBits_canonical, encode_and_not_meaningfulBits]
  · rintro reg data - rfl
    exact encodeCanonical_cfgWrite_data reg data
  · rw [step_command, step_command, encodeCanonical, decodeWord_encode, exec_canonical]

/-- Settles O5, row by row of the opcode map: the decoder reads each operand at the place the operand table gives, and a
remainder by the field's size is in the range of its type. -/
theorem operandsAreFields : Obligations.OperandsAreFields := fun w =>
  ⟨by rw [decodeWord_opc, opcode_toNat], operandValues_decodeWord w, fun o _ => operandField_in_range o w⟩

end Sys2Proof.Laws

/-! The pitch quantizer and the calibration table (40_quantizer R100 to R106). -/

namespace Sys2Proof.Laws

open Sys2Proof.Machine

/-! Decoding by opcode (30_encoding R84, R85). -/

/-- A field as the low bits of a quotient (00_scope R6). -/
theorem slice_eq_ofNat {w : Nat} (v : BitVec w) (lo len : Nat) :
    slice v lo len = BitVec.ofNat len (v.toNat / 2 ^ lo) := by
  rw [slice_eq_iff, BitVec.toNat_ofNat]

theorem decodeWord_eq_calWrite {w : CmdWord} (h : w.toNat / 2 ^ 36 = 2) :
    decodeWord w = .calWrite (BitVec.ofNat 4 (w.toNat / 2 ^ 16)) (BitVec.ofNat 16 w.toNat) := by
  simp only [decodeWord, opcode_toNat, h]
  rw [slice_eq_ofNat, slice_eq_ofNat, Nat.pow_zero, Nat.div_one]

theorem decodeWord_eq_rdNote {w : CmdWord} (h : w.toNat / 2 ^ 36 = 9) : decodeWord w = .rdNote := by
  simp only [decodeWord, opcode_toNat, h]

theorem decodeWord_eq_rdCal {w : CmdWord} (h : w.toNat / 2 ^ 36 = 13) :
    decodeWord w = .rdCal (BitVec.ofNat 4 (w.toNat / 2 ^ 16)) := by
  simp only [decodeWord, opcode_toNat, h]
  rw [slice_eq_ofNat]

/-! What the commands of the calibration table answer (R103, R104, R106). -/

theorem exec_calWrite (idx : BitVec 4) (code : Code) (s : State) :
    exec (.calWrite idx code) s =
      silent (if calIndexExists idx then { s with cal := s.cal.setIfInBounds idx.toNat code, dirty := true } else s) :=
  rfl

theorem exec_rdCal (idx : BitVec 4) (s : State) : exec (.rdCal idx) s = respond (bounded s.cal idx.toNat) s := rfl

theorem exec_rdNote (s : State) : exec .rdNote s = .next { s with rsp := some s.noteDacCode } := rfl

theorem exec_init (rc : Bool) (s : State) : exec (.init rc) s = .next { initState rc s with rsp := none } := rfl

@[simp] theorem calIndexExists_eq_true_iff (idx : BitVec 4) : calIndexExists idx = true ↔ idx.toNat < 11 := by
  rw [calIndexExists, decide_eq_true_eq, Nat.lt_succ_iff]

theorem setIfInBounds_eq_set {α : Type} {n i : Nat} (table : Vector α n) (h : i < n) (x : α) :
    table.setIfInBounds i x = table.set i x h := by
  ext j hj
  rw [Vector.getElem_setIfInBounds hj, Vector.getElem_set]

theorem exec_calWrite_inside {idx : BitVec 4} (code : Code) (s : State) (h : idx.toNat < 11) :
    exec (.calWrite idx code) s = .next { s with cal := s.cal.set idx.toNat code h, dirty := true, rsp := none } := by
  rw [exec_calWrite, if_pos ((calIndexExists_eq_true_iff idx).2 h), setIfInBounds_eq_set s.cal h code, silent]

theorem exec_calWrite_beyond {idx : BitVec 4} (code : Code) (s : State) (h : 11 ≤ idx.toNat) :
    exec (.calWrite idx code) s = .next { s with rsp := none } := by
  rw [exec_calWrite, if_neg (by simpa using h), silent]

theorem exec_rdCal_inside {idx : BitVec 4} (s : State) (h : idx.toNat < 11) :
    exec (.rdCal idx) s = .next { s with rsp := some s.cal[idx.toNat] } := by
  rw [exec_rdCal, bounded_inside s.cal idx.toNat h, respond]

theorem exec_rdCal_beyond {idx : BitVec 4} (s : State) (h : 11 ≤ idx.toNat) :
    exec (.rdCal idx) s = .next { s with rsp := some s.cal[10] } := by
  rw [exec_rdCal, bounded_beyond s.cal idx.toNat (by omega), respond]

/-! The table and the pitch code after INIT (45_events R181). -/

@[simp] theorem initState_cal_default (s : State) : (initState true s).cal = defaultCal := rfl

@[simp] theorem initState_noteDacCode (rc : Bool) (s : State) :
    (initState rc s).noteDacCode = quantize (initState rc s).cal 7680 := rfl

theorem quantize_defaultCal_reset_pitch : quantize defaultCal 7680 = 28921 := by decide

theorem defaultCal_three : defaultCal[3] = 39187 := by decide

/-! Interpolation that truncates toward zero (R100, 00_scope R10). -/

theorem tdiv_fraction_of_nonneg {d r m : Int} (hd : 0 ≤ d) (h0 : 0 ≤ r) (h1 : r < m) :
    0 ≤ (d * r).tdiv m ∧ (d * r).tdiv m ≤ d := by
  have hm : 0 < m := by omega
  have hdr : 0 ≤ d * r := mul_nonneg hd h0
  rw [Int.tdiv_eq_ediv_of_nonneg hdr]
  exact ⟨Int.ediv_nonneg hdr hm.le, Int.ediv_le_of_le_mul hm (mul_le_mul_of_nonneg_left h1.le hd)⟩

/-- A proper fraction of a distance, truncated toward zero, lies between nothing and the distance. -/
theorem tdiv_fraction_between {d r m : Int} (h0 : 0 ≤ r) (h1 : r < m) :
    min 0 d ≤ (d * r).tdiv m ∧ (d * r).tdiv m ≤ max 0 d := by
  rcases le_total 0 d with hd | hd
  · have hup := tdiv_fraction_of_nonneg hd h0 h1
    omega
  · have hdown := tdiv_fraction_of_nonneg (d := -d) (by omega) h0 h1
    rw [neg_mul, Int.neg_tdiv] at hdown
    omega

/-- A value interpolated between two codes fits a code. -/
theorem interpolated_code_toNat (a b : Code) {r m : Int} (h0 : 0 ≤ r) (h1 : r < m) :
    ((BitVec.ofInt 16 (a.toNat + (((b.toNat : Int) - a.toNat) * r).tdiv m)).toNat : Int) =
      a.toNat + (((b.toNat : Int) - a.toNat) * r).tdiv m := by
  have ha := a.isLt
  have hb := b.isLt
  have hbetween := tdiv_fraction_between (d := (b.toNat : Int) - a.toNat) h0 h1
  exact toNat_ofInt_of_mem 16 _ (by omega) (by omega)

/-- The octave and the remainder of a pitch once it is known in which octave the clamped pitch lies: no entry read is
beyond the table. -/
theorem quantize_eq (cal : Vector Code 11) (note : Int) {k : Nat} (h : k + 1 < 11)
    (hk : min (max note 0) 15359 / 1536 = (k : Int)) :
    quantize cal note = BitVec.ofInt 16 ((cal[k].toNat : Int) +
      (((cal[k + 1].toNat : Int) - (cal[k].toNat : Int)) * (min (max note 0) 15359 % 1536)).tdiv 1536) := by
  have hoct : (clamp note 0 (Config.kMaxNote - 1)).toNat / Config.kOctave = k := by
    simp only [clamp, Config.kMaxNote, Config.kOctave]
    omega
  have hrem : ((clamp note 0 (Config.kMaxNote - 1)).toNat : Int) - (k : Int) * Config.kOctave =
      min (max note 0) 15359 % 1536 := by
    simp only [clamp, Config.kMaxNote, Config.kOctave]
    omega
  simp only [quantize, hoct, hrem, bounded_inside cal k (by omega), bounded_inside cal (k + 1) h, tdiv]
  rfl

/-- Settles O12: the interpolated value lies between two codes, so it fits the 16 bits it is stored in. -/
theorem quantizeInterpolates : Obligations.QuantizeInterpolates := by
  intro cal note k h hk a b
  rw [quantize_eq cal note h hk]
  exact interpolated_code_toNat cal[k] cal[k + 1] (by omega) (by omega)

/-- Settles O16: an index names an entry or lies beyond the table. -/
theorem calWriteResult : Obligations.CalWriteResult :=
  ⟨⟨by decide, fun _ => decodeWord_eq_calWrite⟩,
    fun _ code s => ⟨exec_calWrite_inside code s, exec_calWrite_beyond code s⟩⟩

/-- Settles O17: an index names an entry or lies beyond the table; after INIT 1 the table is the default one. -/
theorem rdCalResponds : Obligations.RdCalResponds := by
  refine ⟨⟨by decide, fun _ => decodeWord_eq_rdCal⟩, fun s => ⟨_, exec_init true s, ?_⟩,
    fun _ s => ⟨exec_rdCal_inside s, exec_rdCal_beyond s⟩⟩
  rw [exec_rdCal_inside _ (by decide)]
  simp [defaultCal_three]

/-- Settles O18: RD_NOTE responds the register as it stands; after INIT 1 that is the code of pitch 7680. -/
theorem rdNoteResponds : Obligations.RdNoteResponds := by
  refine ⟨⟨by decide, fun _ => decodeWord_eq_rdNote⟩, fun s => ⟨_, exec_init true s, ?_⟩,
    fun s => ⟨exec_rdNote s, rfl⟩⟩
  rw [exec_rdNote, initState_noteDacCode, initState_cal_default, quantize_defaultCal_reset_pitch]

end Sys2Proof.Laws

/-! The glide step of REFRESH (41_glide R112, R115, R116). -/

namespace Sys2Proof.Laws

open Sys2Proof.Machine

theorem exec_refresh_eq_next_iff {s t : State} : exec .refresh s = .next t ↔ t = { refreshState s with rsp := none } :=
  silent_eq_next_iff (refreshState s) t

/-! The wrapping ramp by its sum modulo `2^32` (R115, 44_trigger R158). -/

theorem rampCompletes_iff_sum_lt (phase inc : Phase) :
    rampCompletes phase inc = true ↔ (phase.toNat + inc.toNat) % 2 ^ 32 < inc.toNat := by
  have hphase := phase.isLt
  have hinc := inc.isLt
  rw [rampCompletes_iff]
  omega

theorem rampCompletes_eq_false_iff_le_sum (phase inc : Phase) :
    rampCompletes phase inc = false ↔ inc.toNat ≤ (phase.toNat + inc.toNat) % 2 ^ 32 := by
  rw [← Nat.not_lt, ← rampCompletes_iff_sum_lt, Bool.not_eq_true]

/-- Settles O24: REFRESH completes the ramp exactly when the sum is below the increment. -/
theorem refreshAdvancesGlide : Obligations.RefreshAdvancesGlide := by
  intro s t h inc p
  obtain rfl := exec_refresh_eq_next_iff.1 h
  refine ⟨fun hwraps => ?_, fun hruns => ?_, refreshState_noteTarget s, refreshState_portamentoExponentialShape s⟩
  · have hdone := (rampCompletes_iff_sum_lt _ _).2 hwraps
    simp [hdone, rampPhase_of_completes, rampIncrement_of_completes]
  · have hgoes := (rampCompletes_eq_false_iff_le_sum _ _).2 hruns
    simp [hgoes, rampPhase_of_runs, rampIncrement_of_runs, p, inc]

/-! The interpolating table lookup (R112). -/

/-- Both entries around a phase are in a table of 257 entries. -/
theorem phase_index_inside (phase : Phase) : phase.toNat / 2 ^ 24 + 1 < 257 := by
  have := phase.isLt
  omega

theorem interp824_eq (entry : Nat → Int) (phase : Phase) :
    interp824 entry phase = entry (phase.toNat / 2 ^ 24) +
      (entry (phase.toNat / 2 ^ 24 + 1) - entry (phase.toNat / 2 ^ 24)) *
        (phase.toNat / 2 ^ 8 % 2 ^ 16 : Nat) / 2 ^ 16 := by
  have hindex : phase.toNat / 2 ^ 24 % 2 ^ 8 = phase.toNat / 2 ^ 24 := by
    have := phase_index_inside phase
    omega
  simp only [interp824, slice_toNat, hindex, asr_eq_div]

/-- The looked up value lies between the two entries it is interpolated from. -/
theorem interp824_between (entry : Nat → Int) (phase : Phase) :
    min (entry (phase.toNat / 2 ^ 24)) (entry (phase.toNat / 2 ^ 24 + 1)) ≤ interp824 entry phase ∧
      interp824 entry phase ≤ max (entry (phase.toNat / 2 ^ 24)) (entry (phase.toNat / 2 ^ 24 + 1)) := by
  have hfraction := asr_fraction_between (entry (phase.toNat / 2 ^ 24 + 1) - entry (phase.toNat / 2 ^ 24))
    (phase.toNat / 2 ^ 8 % 2 ^ 16 : Nat) 16 (by omega) (by omega)
  rw [asr_eq_div] at hfraction
  rw [interp824_eq]
  omega

/-! The level and the pitch of a glide (R116). -/

theorem envExpoAt_inside (s : State) {i : Nat} (h : i < 257) : envExpoAt s i = s.rom.envExpo[i].toNat := by
  rw [envExpoAt, bounded_inside s.rom.envExpo i h]

theorem envExpoAt_bounds (s : State) (i : Nat) : 0 ≤ envExpoAt s i ∧ envExpoAt s i ≤ 65535 := by
  have := (bounded s.rom.envExpo i).isLt
  rw [envExpoAt]
  omega

theorem glideLevel_of_linear {s : State} (h : s.portamentoExponentialShape = false) :
    glideLevel s = (s.portamentoPhase.toNat / 2 ^ 16 : Nat) := by
  have hlevel : s.portamentoPhase.toNat / 2 ^ 16 % 2 ^ 16 = s.portamentoPhase.toNat / 2 ^ 16 := by
    have := s.portamentoPhase.isLt
    omega
  rw [glideLevel, h, if_neg Bool.false_ne_true, slice_toNat, hlevel]

theorem glideLevel_of_curve {s : State} (h : s.portamentoExponentialShape = true) :
    glideLevel s = interp824 (envExpoAt s) s.portamentoPhase := by
  rw [glideLevel, if_pos h]

/-- The level of a shape A glide from the two entries of the curve ROM around the phase. -/
theorem glideLevel_of_curve_entries {s : State} (h : s.portamentoExponentialShape = true)
    (hinside : s.portamentoPhase.toNat / 2 ^ 24 + 1 < 257) :
    glideLevel s = (s.rom.envExpo[s.portamentoPhase.toNat / 2 ^ 24].toNat : Int) +
      ((s.rom.envExpo[s.portamentoPhase.toNat / 2 ^ 24 + 1].toNat : Int) -
        (s.rom.envExpo[s.portamentoPhase.toNat / 2 ^ 24].toNat : Int)) *
        (s.portamentoPhase.toNat / 2 ^ 8 % 2 ^ 16 : Nat) / 2 ^ 16 := by
  rw [glideLevel_of_curve h, interp824_eq, envExpoAt_inside s hinside, envExpoAt_inside s (by omega)]

theorem glideLevel_bounds (s : State) : 0 ≤ glideLevel s ∧ glideLevel s ≤ 65535 := by
  cases h : s.portamentoExponentialShape with
  | false =>
    have := s.portamentoPhase.isLt
    rw [glideLevel_of_linear h]
    omega
  | true =>
    have hbetween := interp824_between (envExpoAt s) s.portamentoPhase
    have hlow := envExpoAt_bounds s (s.portamentoPhase.toNat / 2 ^ 24)
    have hhigh := envExpoAt_bounds s (s.portamentoPhase.toNat / 2 ^ 24 + 1)
    rw [glideLevel_of_curve h]
    omega

theorem glidePitch_between (s : State) :
    min s.noteSource.toInt s.noteTarget.toInt ≤ glidePitch s ∧
      glidePitch s ≤ max s.noteSource.toInt s.noteTarget.toInt := by
  obtain ⟨h0, h1⟩ := glideLevel_bounds s
  have hfraction := asr_fraction_between (s.noteTarget.toInt - s.noteSource.toInt) (glideLevel s) 16 h0 (by omega)
  rw [glidePitch]
  omega

/-- The interpolated pitch fits the 16 bits it is stored in. -/
theorem glidePitch_toInt (s : State) : (BitVec.ofInt 16 (glidePitch s)).toInt = glidePitch s := by
  have hbetween := glidePitch_between s
  have hsl := BitVec.le_toInt s.noteSource
  have hsu := BitVec.toInt_lt (x := s.noteSource)
  have htl := BitVec.le_toInt s.noteTarget
  have htu := BitVec.toInt_lt (x := s.noteTarget)
  exact toInt_ofInt_of_mem 15 _ (by omega) (by omega)

/-- Settles O25: the level is the one the shape selects at the stepped phase; it is below `2^16`, so the interpolated pitch
lies between source and target and fits the 16 bits it is stored in. -/
theorem refreshInterpolatesPitch : Obligations.RefreshInterpolatesPitch := by
  intro s t level h hlinear hcurve
  obtain rfl := exec_refresh_eq_next_iff.1 h
  have hlevel : level = glideLevel (glideAdvance s) := by
    cases hshape : s.portamentoExponentialShape with
    | false => exact (hlinear hshape).trans (glideLevel_of_linear (s := glideAdvance s) hshape).symm
    | true =>
      have hinside := phase_index_inside (glideAdvance s).portamentoPhase
      exact (hcurve _ hinside hshape rfl).trans (glideLevel_of_curve_entries (s := glideAdvance s) hshape hinside).symm
  rw [hlevel]
  obtain ⟨h0, h1⟩ := glideLevel_bounds (glideAdvance s)
  exact ⟨h0, h1, glidePitch_toInt (glideAdvance s)⟩

end Sys2Proof.Laws

/-! The composed pitch and its publishing (42_pitch_pipeline R126 to R128). -/

namespace Sys2Proof.Laws

open Sys2Proof.Machine

/-! The range of the composed pitch (R127), term by term. -/

/-- A value between bounds of either sign, scaled by a register of at most `m`, lies between the bounds scaled by `m`. -/
theorem scaled_between {v lo hi : Int} {r m : Nat} (hlo : lo ≤ 0) (hhi : 0 ≤ hi) (hv : lo ≤ v ∧ v ≤ hi) (hr : r ≤ m) :
    lo * m ≤ v * r ∧ v * r ≤ hi * m := by
  have hr' : (r : Int) ≤ m := Int.ofNat_le.2 hr
  have hr0 : (0 : Int) ≤ r := Int.natCast_nonneg r
  constructor
  · calc lo * m ≤ lo * r := mul_le_mul_of_nonpos_left hr' hlo
      _ ≤ v * r := mul_le_mul_of_nonneg_right hv.1 hr0
  · calc v * r ≤ hi * r := mul_le_mul_of_nonneg_right hv.2 hr0
      _ ≤ hi * m := mul_le_mul_of_nonneg_left hr' hhi

/-- The triangle stays in the signed 16-bit range (43_lfo R142). -/
theorem lfoWave_bounds (phase : Phase) : -32768 ≤ lfoWave phase ∧ lfoWave phase ≤ 32767 := by
  have hphase := phase.isLt
  have hfield := slice_toNat phase 15 17
  rw [lfoWave]
  split <;> omega

theorem bendTerm_eq (s : State) :
    bendTerm s = ((s.modPitchBend.toNat : Int) - 8192) * s.pitchBendRange.toNat / 2 ^ 6 := rfl

theorem bendTerm_bounds (s : State) : -32640 ≤ bendTerm s ∧ bendTerm s ≤ 32636 := by
  have hbend := s.modPitchBend.isLt
  have hrange := s.pitchBendRange.isLt
  have hproduct := scaled_between (v := (s.modPitchBend.toNat : Int) - 8192) (lo := -8192) (hi := 8191)
    (r := s.pitchBendRange.toNat) (m := 255) (by decide) (by decide) (by omega) (by omega)
  rw [bendTerm_eq]
  omega

/-- The range of the vibrato term for every value the triangle takes (43_lfo R143). -/
theorem vibratoTerm_bounds {lfo : Int} (h : -32768 ≤ lfo ∧ lfo ≤ 32767) (s : State) :
    -32385 ≤ vibratoTerm lfo s ∧ vibratoTerm lfo s ≤ 32384 := by
  have hwheel := s.modWheel.isLt
  have hrange := s.vibratoRange.isLt
  have hdepth := scaled_between (r := s.modWheel.toNat) (m := 127) (by decide) (by decide) h (by omega)
  have hproduct := scaled_between (r := s.vibratoRange.toNat) (m := 255) (by decide) (by decide) hdepth (by omega)
  rw [vibratoTerm, asr_eq_div]
  omega

theorem composedPitch_bounds (s : State) : -130561 ≤ composedPitch s ∧ composedPitch s ≤ 130561 := by
  have hglidel := BitVec.le_toInt (glideStep s).notePortamento
  have hglideu := BitVec.toInt_lt (x := (glideStep s).notePortamento)
  have htuningl := BitVec.le_toInt s.tuning
  have htuningu := BitVec.toInt_lt (x := s.tuning)
  have hbend := bendTerm_bounds s
  have hvibrato := vibratoTerm_bounds (lfoWave_bounds (s.lfoPhase + lfoIncrement s)) s
  rw [composedPitch]
  omega

/-- The composed pitch fits the 32 bits it is stored in. -/
theorem composedPitch_toInt (s : State) : (BitVec.ofInt 32 (composedPitch s)).toInt = composedPitch s := by
  have hbounds := composedPitch_bounds s
  exact toInt_ofInt_of_mem 31 _ (by omega) (by omega)

/-! Publishing (R128). -/

theorem mustPublish_eq_true_iff (note : Int) (s : State) :
    mustPublish note s = true ↔ note ≠ s.currentNote.toInt ∨ s.dirty = true := by
  rw [mustPublish, Bool.or_eq_true, decide_eq_true_eq]

theorem mustPublish_eq_false_iff (note : Int) (s : State) :
    mustPublish note s = false ↔ note = s.currentNote.toInt ∧ s.dirty = false := by
  rw [mustPublish, Bool.or_eq_false_iff, decide_eq_false_iff_not, not_not]

/-- The published pitch is the composed one: either it has just been stored, or it was the same before. -/
theorem refreshState_currentNote_toInt (s : State) : (refreshState s).currentNote.toInt = composedPitch s := by
  rw [refreshState_currentNote]
  split
  next => exact composedPitch_toInt s
  next hskip => exact ((mustPublish_eq_false_iff _ _).1 (Bool.eq_false_of_not_eq_true hskip)).1.symm

/-- A tick leaves no calibration change pending: either it has just been taken up, or there was none. -/
theorem refreshState_dirty_eq_false (s : State) : (refreshState s).dirty = false := by
  rw [refreshState_dirty]
  split
  next => rfl
  next hskip => exact ((mustPublish_eq_false_iff _ _).1 (Bool.eq_false_of_not_eq_true hskip)).2

theorem refreshState_noteDacCode_of_due {s : State} (h : composedPitch s ≠ s.currentNote.toInt ∨ s.dirty = true) :
    (refreshState s).noteDacCode = quantize s.cal (composedPitch s) := by
  rw [refreshState_noteDacCode, if_pos ((mustPublish_eq_true_iff _ _).2 h)]

theorem refreshState_noteDacCode_of_not_due {s : State} (hnote : composedPitch s = s.currentNote.toInt)
    (hdirty : s.dirty = false) : (refreshState s).noteDacCode = s.noteDacCode := by
  rw [refreshState_noteDacCode, (mustPublish_eq_false_iff _ _).2 ⟨hnote, hdirty⟩, if_neg Bool.false_ne_true]

/-- The composition of R126 in the fields that a tick leaves. -/
theorem composedPitch_eq (s : State) :
    composedPitch s = (refreshState s).notePortamento.toInt +
      ((s.modPitchBend.toNat : Int) - 8192) * s.pitchBendRange.toNat / 2 ^ 6 + s.tuning.toInt +
      lfoWave (refreshState s).lfoPhase * s.modWheel.toNat * s.vibratoRange.toNat / 2 ^ 15 := by
  rw [composedPitch, bendTerm_eq, vibratoTerm, asr_eq_div, refreshState_notePortamento, refreshState_lfoPhase,
    glideStep_notePortamento]

/-- Settles O30: the composed pitch stays below `2^17`, so it is stored exactly, and publishing is due exactly when it
changed or `dirty` was set. -/
theorem refreshPublishesComposedPitch : Obligations.RefreshPublishesComposedPitch := by
  intro s t h note
  obtain rfl := exec_refresh_eq_next_iff.1 h
  have hnote : note = composedPitch s := (composedPitch_eq s).symm
  rw [hnote]
  exact ⟨refreshState_currentNote_toInt s, refreshState_dirty_eq_false s, refreshState_noteDacCode_of_due,
    refreshState_noteDacCode_of_not_due⟩

end Sys2Proof.Laws

/-! The oscillator and the auxiliary channels (43_lfo R140, R145, R146). -/

namespace Sys2Proof.Laws

open Sys2Proof.Machine

/-! The increment of a tick (R140). -/

theorem lfoIncrement_of_rate_inside {s : State} (h : s.modulationRate.toNat < 100) :
    lfoIncrement s = s.rom.lfoInc[s.modulationRate.toNat] := by
  rw [lfoIncrement, if_pos h, bounded_inside s.rom.lfoInc s.modulationRate.toNat h]

theorem lfoIncrement_of_rate_beyond {s : State} (h : 100 ≤ s.modulationRate.toNat) :
    lfoIncrement s = s.lfoPllPhaseIncrement := by
  rw [lfoIncrement, if_neg (Nat.not_lt.2 h)]

theorem refreshState_lfoPhase_toNat (s : State) :
    (refreshState s).lfoPhase.toNat = (s.lfoPhase.toNat + (lfoIncrement s).toNat) % 2 ^ 32 := by
  rw [refreshState_lfoPhase, BitVec.toNat_add]

/-- Settles O35: the wrapping sum with the increment that the rate selects. -/
theorem refreshAdvancesLfo : Obligations.RefreshAdvancesLfo := by
  intro s t h
  obtain rfl := exec_refresh_eq_next_iff.1 h
  refine ⟨fun hinside => ?_, fun hbeyond => ?_⟩
  · rw [← lfoIncrement_of_rate_inside hinside]
    exact refreshState_lfoPhase_toNat s
  · rw [← lfoIncrement_of_rate_beyond hbeyond]
    exact refreshState_lfoPhase_toNat s

/-! The channels as values: none is truncated (R145). -/

theorem code7_toNat (value : BitVec 7) : (code7 value).toNat = value.toNat * 2 ^ 9 := by
  have := value.isLt
  rw [code7, BitVec.toNat_ofNat, Nat.shiftLeft_eq]
  omega

theorem bendCode_toNat (bend : BitVec 14) : (BitVec.ofNat 16 (bend.toNat <<< 2)).toNat = bend.toNat * 2 ^ 2 := by
  have := bend.isLt
  rw [BitVec.toNat_ofNat, Nat.shiftLeft_eq]
  omega

/-- The range of the triangle scaled by the wheel and moved into unsigned code. -/
theorem wheelWave_bounds {lfo : Int} (h : -32768 ≤ lfo ∧ lfo ≤ 32767) (wheel : BitVec 7) :
    256 ≤ lfo * wheel.toNat / 2 ^ 7 + 32768 ∧ lfo * wheel.toNat / 2 ^ 7 + 32768 ≤ 65279 := by
  have hwheel := wheel.isLt
  have hproduct := scaled_between (r := wheel.toNat) (m := 127) (by decide) (by decide) h (by omega)
  omega

theorem wheelWaveCode_toNat {lfo : Int} (h : -32768 ≤ lfo ∧ lfo ≤ 32767) (wheel : BitVec 7) :
    ((BitVec.ofInt 16 (asr (lfo * wheel.toNat) 7 + 32768)).toNat : Int) = lfo * wheel.toNat / 2 ^ 7 + 32768 := by
  have hbounds := wheelWave_bounds h wheel
  rw [asr_eq_div]
  exact toNat_ofInt_of_mem 16 _ (by omega) (by omega)

theorem waveCode_toNat {lfo : Int} (h : -32768 ≤ lfo ∧ lfo ≤ 32767) :
    ((BitVec.ofInt 16 (lfo + 32768)).toNat : Int) = lfo + 32768 :=
  toNat_ofInt_of_mem 16 _ (by omega) (by omega)

/-! The channels after a tick (R145). -/

/-- A channel after a tick, by its number: the assignments are to different channels, so their order does not matter. -/
theorem refreshState_aux_getElem (s : State) {ch : Nat} (h : ch < 8) :
    (refreshState s).aux[ch] =
      if ch = 0 then code7 s.modVelocity
      else if ch = 1 then code7 s.modWheel
      else if ch = 4 then BitVec.ofNat 16 (s.modPitchBend.toNat <<< 2)
      else if ch = 5 then BitVec.ofInt 16 (asr (lfoWave (refreshState s).lfoPhase * s.modWheel.toNat) 7 + 32768)
      else if ch = 6 then BitVec.ofInt 16 (lfoWave (refreshState s).lfoPhase + 32768)
      else s.aux[ch] := by
  simp only [refreshState_aux, auxUpdate_aux, refreshState_lfoPhase, Vector.getElem_set]
  interval_cases ch <;> rfl

/-! Who writes the channels (R145, 45_events R177). -/

theorem controlState_aux (controller value : BitVec 7) (s : State) :
    (controlState controller value s).aux =
      if controller = 2 then s.aux.set 2 (code7 value)
      else if controller = 4 then s.aux.set 3 (code7 value)
      else s.aux := by
  rw [controlState]
  split
  next hwheel =>
    subst hwheel
    rfl
  next => rw [apply_ite State.aux, apply_ite State.aux]

/-- Writing one entry of a table changes no other. -/
theorem index_eq_of_set_changes {α : Type} {n k j : Nat} {table : Vector α n} {x : α} {hk : k < n} (hj : j < n)
    (hchanged : (table.set k x)[j] ≠ table[j]) : j = k := by
  by_contra hother
  exact hchanged (Vector.getElem_set_ne hk hj (Ne.symm hother))

/-- Only the breath and the foot controller write a channel, each its own. -/
theorem controlState_aux_getElem_of_ne {controller value : BitVec 7} {s : State} {ch : Nat} (h : ch < 8)
    (hchanged : (controlState controller value s).aux[ch] ≠ s.aux[ch]) :
    (ch = 2 ∧ controller = 2) ∨ (ch = 3 ∧ controller = 4) := by
  simp only [controlState_aux] at hchanged
  split at hchanged
  next hbreath => exact .inl ⟨index_eq_of_set_changes h hchanged, hbreath⟩
  next =>
    split at hchanged
    next hfoot => exact .inr ⟨index_eq_of_set_changes h hchanged, hfoot⟩
    next => exact absurd rfl hchanged

@[simp] theorem cfgState_aux (reg : BitVec 4) (data : BitVec 32) (s : State) : (cfgState reg data s).aux = s.aux := by
  rw [cfgState]
  split <;> rfl

/-- Every command but REFRESH, INIT and CONTROL_CHANGE leaves all channels as they are. -/
theorem exec_aux_of_not_writer {i : Instr} {s t : State} (h : exec i s = .next t) (hrefresh : i ≠ .refresh)
    (hinit : ∀ rc, i ≠ .init rc) (hcontrol : ∀ controller value, i ≠ .controlChange controller value) :
    t.aux = s.aux := by
  cases i with
  | refresh => exact absurd rfl hrefresh
  | init rc => exact absurd rfl (hinit rc)
  | controlChange controller value => exact absurd rfl (hcontrol controller value)
  | calWrite idx code =>
    rw [exec_calWrite, silent_eq_next_iff] at h
    subst h
    exact (apply_ite State.aux _ _ _).trans (ite_self _)
  | noteOn note velocity amount trigger =>
    cases h
    exact noteOnState_aux note velocity amount trigger s
  | cfgWrite reg data =>
    cases h
    exact cfgState_aux reg data s
  | nop | noteOff | pitchBend | rdNote | rdTrig | rdAux | rdStatus | rdCal | reservedE | reservedF =>
    cases h
    rfl

/-- The writers of the channels beside REFRESH and INIT. -/
theorem exec_aux_getElem_of_ne {i : Instr} {s t : State} (h : exec i s = .next t) (hrefresh : i ≠ .refresh)
    (hinit : ∀ rc, i ≠ .init rc) {ch : Nat} (hch : ch < 8) (hchanged : t.aux[ch] ≠ s.aux[ch]) :
    (ch = 2 ∧ ∃ value, i = .controlChange 2 value) ∨ (ch = 3 ∧ ∃ value, i = .controlChange 4 value) := by
  by_cases hcontrol : ∃ controller value, i = .controlChange controller value
  · obtain ⟨controller, value, rfl⟩ := hcontrol
    obtain rfl := (silent_eq_next_iff _ _).1 h
    rcases controlState_aux_getElem_of_ne hch hchanged with ⟨rfl, rfl⟩ | ⟨rfl, rfl⟩
    · exact .inl ⟨rfl, value, rfl⟩
    · exact .inr ⟨rfl, value, rfl⟩
  · push Not at hcontrol
    have hsame := exec_aux_of_not_writer h hrefresh hinit hcontrol
    exact absurd (by rw [hsame]) hchanged

/-- Settles O32: each channel is read off the update of R145, whose values fit 16 bits because the triangle is a signed
16-bit value and the wheel is below `2^7`; the writers are those of R145. -/
theorem refreshUpdatesAux : Obligations.RefreshUpdatesAux := by
  refine ⟨fun i s t h hrefresh hinit ch hch => exec_aux_getElem_of_ne h hrefresh hinit hch, fun s t h => ?_⟩
  obtain rfl := exec_refresh_eq_next_iff.1 h
  have hwave := lfoWave_bounds (refreshState s).lfoPhase
  have hfive := wheelWaveCode_toNat hwave s.modWheel
  obtain ⟨hlow, hhigh⟩ := wheelWave_bounds hwave s.modWheel
  rw [← hfive] at hlow hhigh
  simp only [refreshState_aux_getElem, reduceIte, Nat.reduceEqDiff, and_true]
  exact ⟨code7_toNat _, code7_toNat _, bendCode_toNat _, hfive, by exact_mod_cast hlow, by exact_mod_cast hhigh,
    waveCode_toNat hwave⟩

/-! Reading a channel (R146). -/

theorem decodeWord_eq_rdAux {w : CmdWord} (h : w.toNat / 2 ^ 36 = 11) :
    decodeWord w = .rdAux (BitVec.ofNat 3 w.toNat) := by
  simp only [decodeWord, opcode_toNat, h]
  rw [slice_eq_ofNat, Nat.pow_zero, Nat.div_one]

/-- Three bits name one of the eight channels, so the bound of the table read never acts. -/
theorem exec_rdAux_of_aux_eq {ch : BitVec 3} {s : State} {v : Code} (h : s.aux[ch.toNat]'ch.isLt = v) :
    exec (.rdAux ch) s = .next { s with rsp := some v } := by
  rw [← h, ← bounded_inside s.aux ch.toNat ch.isLt]
  rfl

/-- After INIT the bend is at its centre, which a tick turns into the middle code. -/
theorem refreshState_aux_four_after_init {s t : State} {rc : Bool} (h : exec (.init rc) s = .next t) :
    (refreshState t).aux[4] = 32768 := by
  obtain rfl := (silent_eq_next_iff _ _).1 h
  rw [refreshState_aux_getElem]
  rfl

/-- Settles O38: RD_AUX responds the channel the word names; after INIT and a tick channel 4 is the centred bend. -/
theorem rdAuxResponds : Obligations.RdAuxResponds := by
  refine ⟨⟨by decide, fun _ => decodeWord_eq_rdAux⟩, fun rc s => ⟨_, _, exec_init rc s, rfl, ?_⟩,
    fun ch s => ⟨exec_rdAux_of_aux_eq rfl, rfl⟩⟩
  exact exec_rdAux_of_aux_eq (refreshState_aux_four_after_init (exec_init rc s))

end Sys2Proof.Laws

/-! The trigger and envelope generator (44_trigger R157, R158, R160, R161, R164, R165). -/

namespace Sys2Proof.Laws

open Sys2Proof.Machine

/-! A tick of the countdowns and the envelope (R157, R158). -/

theorem ramp_of_sum_lt {phase inc : Phase} (h : (phase.toNat + inc.toNat) % 2 ^ 32 < inc.toNat) :
    rampPhase phase inc = 0 ∧ rampIncrement phase inc = 0 :=
  have hdone := (rampCompletes_iff_sum_lt phase inc).2 h
  ⟨rampPhase_of_completes phase inc hdone, rampIncrement_of_completes phase inc hdone⟩

theorem ramp_of_le_sum {phase inc : Phase} (h : inc.toNat ≤ (phase.toNat + inc.toNat) % 2 ^ 32) :
    (rampPhase phase inc).toNat = (phase.toNat + inc.toNat) % 2 ^ 32 ∧ rampIncrement phase inc = inc := by
  have hgoes := (rampCompletes_eq_false_iff_le_sum phase inc).2 h
  rw [rampPhase_of_runs phase inc hgoes, BitVec.toNat_add]
  exact ⟨rfl, rampIncrement_of_runs phase inc hgoes⟩

/-- Settles O33: both countdowns are floored at zero, and the envelope phase is the wrapping ramp of the glide. -/
theorem refreshAdvancesTriggerUnit : Obligations.RefreshAdvancesTriggerUnit := by
  intro s t h
  obtain rfl := exec_refresh_eq_next_iff.1 h
  exact ⟨countDown_toNat s.retriggerDelay, countDown_toNat s.triggerPulse, ramp_of_sum_lt, ramp_of_le_sum⟩

/-! The shape function (R161): square, linear, or a curve table. -/

theorem shape_cases : ∀ shape : BitVec 3, shape = 0 ∨ shape = 1 ∨ 2 ≤ shape.toNat := by decide

theorem shapeValue_of_square {s : State} (h : s.triggerShape = 0) : shapeValue s = 32767 := by
  rw [shapeValue, if_pos h]

theorem shapeValue_of_linear {s : State} (h : s.triggerShape = 1) :
    shapeValue s = 32767 - (s.triggerPhase.toNat / 2 ^ 17 : Nat) := by
  have hfield : s.triggerPhase.toNat / 2 ^ 17 % 2 ^ 15 = s.triggerPhase.toNat / 2 ^ 17 := by
    have := s.triggerPhase.isLt
    omega
  rw [shapeValue, if_neg (by rw [h]; decide), if_pos h, slice_toNat, hfield]

theorem shapeValue_of_curve {s : State} (h : 2 ≤ s.triggerShape.toNat) :
    shapeValue s = interp824 (trigWaveAt s (min (s.triggerShape.toNat - 2) 3)) s.triggerPhase := by
  have hnotsquare : s.triggerShape ≠ 0 := fun h0 => by simp [h0] at h
  have hnotlinear : s.triggerShape ≠ 1 := fun h1 => by simp [h1] at h
  rw [shapeValue, if_neg hnotsquare, if_neg hnotlinear, Config.kTrig]

theorem trigWaveAt_inside (s : State) {k i : Nat} (hk : k < 4) (hi : i < 257) :
    trigWaveAt s k i = s.rom.trigWave[k][i].toInt := by
  rw [trigWaveAt, bounded_inside s.rom.trigWave k hk, bounded_inside _ i hi]

theorem trigWaveAt_le (s : State) (k i : Nat) : trigWaveAt s k i ≤ 32767 :=
  Int.le_of_lt_add_one BitVec.toInt_lt

/-- The value of a curve shape from the two entries of its table around the phase. -/
theorem shapeValue_of_curve_entries {s : State} {k i : Nat} (h : 2 ≤ s.triggerShape.toNat) (hk : k < 4)
    (hi : i + 1 < 257) (hshape : k = min (s.triggerShape.toNat - 2) 3) (hphase : i = s.triggerPhase.toNat / 2 ^ 24) :
    shapeValue s = s.rom.trigWave[k][i].toInt + (s.rom.trigWave[k][i + 1].toInt - s.rom.trigWave[k][i].toInt) *
      (s.triggerPhase.toNat / 2 ^ 8 % 2 ^ 16 : Nat) / 2 ^ 16 := by
  rw [shapeValue_of_curve h, interp824_eq, ← hshape, ← hphase, trigWaveAt_inside s hk hi,
    trigWaveAt_inside s hk (by omega)]

/-- No shape exceeds the largest 16-bit value; a curve lies between entries, which are signed 16-bit values. -/
theorem shapeValue_le (s : State) : shapeValue s ≤ 32767 := by
  rcases shape_cases s.triggerShape with hsquare | hlinear | hcurve
  · rw [shapeValue_of_square hsquare]
  · rw [shapeValue_of_linear hlinear]
    omega
  · rw [shapeValue_of_curve hcurve]
    exact (interp824_between _ _).2.trans (max_le (trigWaveAt_le s _ _) (trigWaveAt_le s _ _))

/-! The velocity scaling and the mapping between the two codes (R160). -/

/-- `coeff` of R160: what the shape value is scaled by, in units of `2^-15`. -/
def velocityCoeff (s : State) : Nat := if s.triggerScale = true then s.modVelocity.toNat * 2 ^ 8 else 32768

theorem velocityCoeff_cast (s : State) :
    (velocityCoeff s : Int) = if s.triggerScale = true then (s.modVelocity.toNat : Int) * 2 ^ 8 else 32768 := by
  push_cast [velocityCoeff]
  rfl

theorem velocityCoeff_le (s : State) : velocityCoeff s ≤ 32768 := by
  have hvelocity := s.modVelocity.isLt
  rw [velocityCoeff]
  split <;> omega

theorem scaledShape_eq (s : State) : scaledShape s = shapeValue s * velocityCoeff s / 2 ^ 15 := by
  rw [scaledShape, asr_eq_div, velocityCoeff_cast, Nat.shiftLeft_eq, Nat.cast_mul]
  rfl

/-- A shape value that is not negative stays a proper fraction of `2^15` when it is scaled. -/
theorem scaledShape_bounds {s : State} (h : 0 ≤ shapeValue s) : 0 ≤ scaledShape s ∧ scaledShape s < 2 ^ 15 := by
  have hproduct := scaled_between le_rfl (by decide) ⟨h, shapeValue_le s⟩ (velocityCoeff_le s)
  rw [scaledShape_eq]
  omega

theorem trigCode_of_phase_le {s : State} (h : s.triggerPhase.toNat ≤ s.triggerPhaseIncrement.toNat) :
    trigCode s = s.cal[3] := by
  rw [trigCode, if_pos (BitVec.le_def.2 h), bounded_inside s.cal 3 (by decide)]

theorem trigCode_of_increment_lt {s : State} (h : s.triggerPhaseIncrement.toNat < s.triggerPhase.toNat) :
    trigCode s = BitVec.ofInt 16
      (s.cal[3].toNat + asr (((s.cal[8].toNat : Int) - s.cal[3].toNat) * scaledShape s) 15) := by
  rw [trigCode, if_neg (fun hle => Nat.not_le.2 h (BitVec.le_def.1 hle)), bounded_inside s.cal 3 (by decide),
    bounded_inside s.cal 8 (by decide)]

/-- A fraction of the way between two codes lies between them, so it fits the 16 bits it is stored in. -/
theorem trigCode_between {s : State} (h : s.triggerPhaseIncrement.toNat < s.triggerPhase.toNat)
    (hvalue : 0 ≤ shapeValue s) :
    min (s.cal[3].toNat : Int) s.cal[8].toNat ≤ (trigCode s).toNat ∧
      ((trigCode s).toNat : Int) ≤ max (s.cal[3].toNat : Int) s.cal[8].toNat := by
  have hzero := s.cal[3].isLt
  have htop := s.cal[8].isLt
  obtain ⟨h0, h1⟩ := scaledShape_bounds hvalue
  have hfraction := asr_fraction_between ((s.cal[8].toNat : Int) - s.cal[3].toNat) (scaledShape s) 15 h0 h1
  rw [trigCode_of_increment_lt h, toNat_ofInt_of_mem 16 _ (by omega) (by omega)]
  omega

/-- Settles O39: the value is the one the shape selects; scaled, it is a fraction of the way between the two codes. -/
theorem trigCodeValue : Obligations.TrigCodeValue := by
  intro s value hsquare hlinear hcurve
  have hvalue : shapeValue s = value := by
    rcases shape_cases s.triggerShape with h | h | h
    · exact (shapeValue_of_square h).trans (hsquare h).symm
    · exact (shapeValue_of_linear h).trans (hlinear h).symm
    · have hk : min (s.triggerShape.toNat - 2) 3 < 4 := by omega
      have hi := phase_index_inside s.triggerPhase
      exact (shapeValue_of_curve_entries h hk hi rfl rfl).trans (hcurve _ _ hk hi h rfl rfl).symm
  subst hvalue
  refine ⟨rfl, trigCode_of_phase_le, fun hruns => ⟨?_, trigCode_between hruns⟩⟩
  rw [← velocityCoeff_cast, ← scaledShape_eq]
  exact trigCode_of_increment_lt hruns

/-! Reading the code (R164). -/

theorem decodeWord_eq_rdTrig {w : CmdWord} (h : w.toNat / 2 ^ 36 = 10) : decodeWord w = .rdTrig := by
  simp only [decodeWord, opcode_toNat, h]

theorem exec_rdTrig (s : State) : exec .rdTrig s = .next { s with rsp := some (trigCode s) } := rfl

/-- After INIT 1 the envelope is idle and the table is the default one. -/
theorem trigCode_after_init {s t : State} (h : exec (.init true) s = .next t) : trigCode t = 39187 := by
  obtain rfl := (silent_eq_next_iff _ _).1 h
  exact (trigCode_of_phase_le le_rfl).trans defaultCal_three

/-- Settles O40: RD_TRIG responds the code of the state it executes on; after INIT 1 that is entry 3. -/
theorem rdTrigResponds : Obligations.RdTrigResponds := by
  refine ⟨⟨by decide, fun _ => decodeWord_eq_rdTrig⟩, fun s => ⟨_, exec_init true s, ?_⟩,
    fun s => ⟨exec_rdTrig s, rfl⟩⟩
  rw [exec_rdTrig, trigCode_after_init (exec_init true s)]

/-! The one-bit outputs and the status word (R165, R166). -/

@[simp] theorem gateOut_eq_true_iff (s : State) : gateOut s = true ↔ s.gate = true ∧ s.retriggerDelay = 0 := by
  rw [gateOut, Bool.and_eq_true, decide_eq_true_eq]

@[simp] theorem trigOut_eq_true_iff (s : State) : trigOut s = true ↔ s.triggerPulse ≠ 0 := by
  rw [trigOut, decide_eq_true_eq]

/-- Three bits below thirteen zeros as a number. -/
theorem three_bits_eq_ofNat : ∀ high middle low : Bool,
    (0#13 ++ BitVec.ofBool high ++ BitVec.ofBool middle ++ BitVec.ofBool low : BitVec 16) =
      BitVec.ofNat 16 (4 * (if high = true then 1 else 0) + 2 * (if middle = true then 1 else 0) +
        (if low = true then 1 else 0)) := by
  decide

theorem statusWord_eq (s : State) :
    statusWord s = BitVec.ofNat 16 (4 * (if s.gate = true then 1 else 0) + 2 * (if s.triggerPulse ≠ 0 then 1 else 0) +
      (if s.gate = true ∧ s.retriggerDelay = 0 then 1 else 0)) := by
  rw [statusWord, three_bits_eq_ofNat]
  simp only [gateOut_eq_true_iff, trigOut_eq_true_iff]

theorem statusWord_of_gate_and_pulse {s : State} (hgate : s.gate = true) (hgap : s.retriggerDelay = 0)
    (hpulse : s.triggerPulse ≠ 0) : statusWord s = 7 := by
  rw [statusWord_eq, if_pos hgate, if_pos hpulse, if_pos ⟨hgate, hgap⟩]
  rfl

theorem decodeWord_eq_rdStatus {w : CmdWord} (h : w.toNat / 2 ^ 36 = 12) : decodeWord w = .rdStatus := by
  simp only [decodeWord, opcode_toNat, h]

theorem exec_rdStatus (s : State) : exec .rdStatus s = .next { s with rsp := some (statusWord s) } := rfl

theorem exec_noteOn (note : Pitch) (velocity amount : BitVec 7) (trigger : Bool) (s : State) :
    exec (.noteOn note velocity amount trigger) s =
      .next { noteOnState note velocity amount trigger s with rsp := none } := rfl

/-- A triggered note on the ungated voice that INIT leaves: the pulse of the initial duration starts, with no gap. -/
theorem statusWord_of_first_note {s t u : State} {rc : Bool} {note : Pitch} {velocity amount : BitVec 7}
    (hinit : exec (.init rc) s = .next t) (hnote : exec (.noteOn note velocity amount true) t = .next u) :
    statusWord u = 7 := by
  obtain rfl := (silent_eq_next_iff _ _).1 hinit
  obtain rfl := (silent_eq_next_iff _ _).1 hnote
  exact statusWord_of_gate_and_pulse rfl rfl (show (16#10) ≠ 0 by decide)

/-- Settles O42: the word is made of the same two levels as the ports, above them `gate`. -/
theorem rdStatusResponds : Obligations.RdStatusResponds := by
  refine ⟨⟨by decide, fun _ => decodeWord_eq_rdStatus⟩,
    fun rc s => ⟨_, _, exec_init rc s, exec_noteOn 7680 100 0 true _, ?_⟩,
    fun s => ⟨?_, gateOut_eq_true_iff s, trigOut_eq_true_iff s⟩⟩
  · rw [exec_rdStatus, statusWord_of_first_note (exec_init rc s) (exec_noteOn 7680 100 0 true _)]
  · rw [exec_rdStatus, statusWord_eq]

end Sys2Proof.Laws

/-! The event, configuration and system commands (45_events R175 to R181, 30_encoding R86). -/

namespace Sys2Proof.Laws

open Sys2Proof.Machine

/-! Decoding by opcode (30_encoding R84, R85). -/

/-- The lowest bits of a word (00_scope R6). -/
theorem slice_zero_eq_ofNat {w : Nat} (v : BitVec w) (len : Nat) : slice v 0 len = BitVec.ofNat len v.toNat := by
  rw [slice_eq_ofNat, Nat.pow_zero, Nat.div_one]

/-- A bit as a test on a quotient (00_scope R6). -/
theorem getLsbD_eq_decide {w : Nat} (v : BitVec w) (i : Nat) : v.getLsbD i = decide (v.toNat / 2 ^ i % 2 = 1) := by
  rw [BitVec.getLsbD, Nat.testBit_eq_decide_div_mod_eq]

theorem decodeWord_eq_nop {w : CmdWord} (h : w.toNat / 2 ^ 36 = 0) : decodeWord w = .nop := by
  simp only [decodeWord, opcode_toNat, h]

theorem decodeWord_eq_init {w : CmdWord} (h : w.toNat / 2 ^ 36 = 1) :
    decodeWord w = .init (decide (w.toNat % 2 = 1)) := by
  simp only [decodeWord, opcode_toNat, h]
  rw [getLsbD_eq_decide, Nat.pow_zero, Nat.div_one]

theorem decodeWord_eq_noteOn {w : CmdWord} (h : w.toNat / 2 ^ 36 = 3) :
    decodeWord w = .noteOn (BitVec.ofNat 16 w.toNat) (BitVec.ofNat 7 (w.toNat / 2 ^ 16))
      (BitVec.ofNat 7 (w.toNat / 2 ^ 23)) (decide (w.toNat / 2 ^ 30 % 2 = 1)) := by
  simp only [decodeWord, opcode_toNat, h]
  rw [slice_zero_eq_ofNat, slice_eq_ofNat, slice_eq_ofNat, getLsbD_eq_decide]

theorem decodeWord_eq_noteOff {w : CmdWord} (h : w.toNat / 2 ^ 36 = 4) : decodeWord w = .noteOff := by
  simp only [decodeWord, opcode_toNat, h]

theorem decodeWord_eq_controlChange {w : CmdWord} (h : w.toNat / 2 ^ 36 = 5) :
    decodeWord w = .controlChange (BitVec.ofNat 7 (w.toNat / 2 ^ 8)) (BitVec.ofNat 7 w.toNat) := by
  simp only [decodeWord, opcode_toNat, h]
  rw [slice_zero_eq_ofNat, slice_eq_ofNat]

theorem decodeWord_eq_pitchBend {w : CmdWord} (h : w.toNat / 2 ^ 36 = 6) :
    decodeWord w = .pitchBend (BitVec.ofNat 14 w.toNat) := by
  simp only [decodeWord, opcode_toNat, h]
  rw [slice_zero_eq_ofNat]

theorem decodeWord_eq_cfgWrite {w : CmdWord} (h : w.toNat / 2 ^ 36 = 7) :
    decodeWord w = .cfgWrite (BitVec.ofNat 4 (w.toNat / 2 ^ 32)) (BitVec.ofNat 32 w.toNat) := by
  simp only [decodeWord, opcode_toNat, h]
  rw [slice_zero_eq_ofNat, slice_eq_ofNat]

theorem decodeWord_eq_reservedE {w : CmdWord} (h : w.toNat / 2 ^ 36 = 14) : decodeWord w = .reservedE := by
  simp only [decodeWord, opcode_toNat, h]

theorem decodeWord_eq_reservedF {w : CmdWord} (h : w.toNat / 2 ^ 36 = 15) : decodeWord w = .reservedF := by
  simp only [decodeWord, opcode_toNat, h]

/-! INIT leaves the reset state (R181, 10_state R57). -/

/-- The default table of R181 is the one that hardware reset loads. -/
theorem defaultCal_eq_reset_cal : defaultCal = State.reset.cal := by decide

/-- The initial pitch lies on an octave boundary, so its code is the entry there. -/
theorem quantize_reset_pitch (cal : Vector Code 11) : quantize cal 7680 = cal[5] := by
  rw [quantize_eq cal 7680 (k := 5) (by decide) (by decide)]
  simp

theorem exec_init_keep_table (s : State) :
    exec (.init false) s = .next { State.reset with
      cal := s.cal, noteDacCode := s.cal[5], rom := s.rom, hostStream := s.hostStream } := by
  rw [← quantize_reset_pitch]
  rfl

theorem exec_init_default_table (s : State) :
    exec (.init true) s = .next { State.reset with rom := s.rom, hostStream := s.hostStream } := by
  rw [exec_init]
  simp only [initState, if_true, quantize_defaultCal_reset_pitch]
  rw [defaultCal_eq_reset_cal]
  rfl

/-- Settles O10: INIT leaves the reset state, whose pitch code is the table's entry at the octave boundary of the initial
pitch and whose envelope is idle. -/
theorem initRestoresReset : Obligations.InitRestoresReset := by
  refine ⟨⟨by decide, by decide, fun _ => decodeWord_eq_init⟩, fun s => ?_⟩
  intro after default
  have htable : ∀ i : Nat, (h : i < 11) → (default[i].toNat : Int) = 54586 - 5133 * i := by
    intro i hi
    interval_cases i <;> rfl
  exact ⟨exec_init_default_table s, exec_init_keep_table s, quantize_reset_pitch s.cal, htable, rfl,
    trigCode_of_phase_le (s := after default 28921) le_rfl, rfl⟩

/-! What NOTE_ON arms (41_glide R113, R114, 44_trigger R155). -/

theorem clampedAmount_eq (amount : BitVec 7) : clampedAmount amount = min amount.toNat 100 := rfl

theorem clampedAmount_eq_zero_iff (amount : BitVec 7) : clampedAmount amount = 0 ↔ amount = 0 := by
  rw [clampedAmount_eq]
  bv_omega

theorem clampedAmount_le_split_iff (amount : BitVec 7) : clampedAmount amount ≤ Config.portSplit ↔ amount.toNat ≤ 50 := by
  rw [clampedAmount_eq, Config.portSplit]
  omega

theorem portIncAt_inside (s : State) {i : Nat} (h : i < 128) : portIncAt s i = s.rom.portInc[i] :=
  bounded_inside s.rom.portInc i h

theorem armedSource_eq (note : Pitch) (amount : BitVec 7) (s : State) :
    armedSource note amount s = if amount = 0 then note else s.notePortamento := by
  simp only [armedSource, clampedAmount_eq_zero_iff]

theorem armedIncrement_of_shapeA (note : Pitch) {amount : BitVec 7} (s : State) (h : amount.toNat ≤ 50) :
    armedIncrement note amount s = s.rom.portInc[2 * amount.toNat] := by
  have hamount : clampedAmount amount = amount.toNat := by
    rw [clampedAmount_eq]
    omega
  rw [armedIncrement, if_pos ((clampedAmount_le_split_iff amount).2 h), portIncAt_inside s (by omega)]
  simp only [hamount]

/-- Clamped into the positive signed range, the increment of R114 is stored exactly. -/
theorem shapeBIncrement_toNat (base : Phase) (delta : Nat) :
    ((shapeBIncrement base delta).toNat : Int) =
      min (max ((1536 * (base.toNat / 2 ^ 11) / delta * 2 ^ 11 : Nat) : Int) 1) (2 ^ 31 - 1) := by
  rw [shapeBIncrement, toNat_ofInt_of_mem 32 _ ((clamp_low _ 1 _ (by decide)).trans' (by decide))
    ((clamp_high _ _ _).trans_lt (by decide)), Nat.shiftLeft_eq, Nat.shiftRight_eq_div_pow, clamp]

/-- A shape B glide starts from the live pitch: its amount is not zero. -/
theorem armedIncrement_of_shapeB (note : Pitch) {amount : BitVec 7} (s : State) {a : Nat} (h : 51 ≤ a ∧ a ≤ 100)
    (hamount : a = min amount.toNat 100) :
    armedIncrement note amount s =
      shapeBIncrement s.rom.portInc[2 * (a - 51)] ((note.toInt - s.notePortamento.toInt).natAbs + 1) := by
  have hclamped : clampedAmount amount = a := hamount.symm
  have hsource : armedSource note amount s = s.notePortamento := by
    rw [armedSource, hclamped, if_neg (by omega)]
  have hshape : ¬ clampedAmount amount ≤ Config.portSplit := by
    rw [clampedAmount_le_split_iff]
    omega
  rw [armedIncrement, if_neg hshape, hclamped, hsource, Config.portSplit, portIncAt_inside s (by omega), glideDelta]

/-- `GlideArm` and, with a trigger, `TrigArm` write different elements; `TrigArm` reads `gate` before it is set. -/
theorem noteOnState_eq (note : Pitch) (velocity amount : BitVec 7) (trigger : Bool) (s : State) :
    noteOnState note velocity amount trigger s = { s with
      noteSource := if amount = 0 then note else s.notePortamento
      noteTarget := note
      portamentoPhase := 0
      portamentoPhaseIncrement := armedIncrement note amount s
      portamentoExponentialShape := decide (amount.toNat ≤ 50)
      modVelocity := velocity
      gate := true
      retriggerDelay := if trigger = true ∧ s.gate = true then 2 else s.retriggerDelay
      triggerPulse := if trigger = true then BitVec.ofNat 10 (s.triggerDuration.toNat * 8) else s.triggerPulse
      triggerPhase := if trigger = true then 0 else s.triggerPhase
      triggerPhaseIncrement :=
        if trigger = true then s.rom.portInc[s.triggerDuration.toNat]'s.triggerDuration.isLt
        else s.triggerPhaseIncrement } := by
  have hrom := portIncAt_inside s s.triggerDuration.isLt
  simp only [← armedSource_eq, ← clampedAmount_le_split_iff, ← hrom]
  cases trigger with
  | false => simp [noteOnState, glideArm]
  | true => cases hgate : s.gate <;> simp [noteOnState, glideArm, trigArm, portIncAt, hgate]

/-- Settles O22: the fields are those of `GlideArm` and `TrigArm`; the increment is read from the ROM or, for amounts above
50, computed from the distance to the live pitch. -/
theorem noteOnResult : Obligations.NoteOnResult := by
  refine ⟨⟨by decide, fun _ => decodeWord_eq_noteOn⟩, fun note velocity amount trigger s => ?_⟩
  refine ⟨_, exec_noteOn note velocity amount trigger s, ?_, fun h => ?_, fun a h hamount => ?_⟩
  · simp only [noteOnState_eq]
  · exact (noteOnState_portamentoPhaseIncrement ..).trans (armedIncrement_of_shapeA note s h)
  · rw [← shapeBIncrement_toNat, ← armedIncrement_of_shapeB note s h hamount, noteOnState_portamentoPhaseIncrement]

/-! NOTE_OFF, CONTROL_CHANGE and PITCH_BEND (R176 to R178). -/

theorem exec_noteOff (s : State) : exec .noteOff s = .next { s with gate := false, rsp := none } := rfl

theorem gateLevel_of_gate_low {s : State} (h : s.gate = false) : s.outputs.gateLevel = false := by
  rw [State.outputs, gateOut, h, Bool.false_and]

/-- Settles O46: the gate level is the gate masked by the retrigger gap. -/
theorem noteOffClearsGateOnly : Obligations.NoteOffClearsGateOnly :=
  ⟨⟨by decide, fun _ => decodeWord_eq_noteOff⟩, fun s => ⟨exec_noteOff s, gateLevel_of_gate_low rfl⟩⟩

theorem exec_controlChange (controller value : BitVec 7) (s : State) :
    exec (.controlChange controller value) s = .next { controlState controller value s with rsp := none } := rfl

theorem code7_eq (value : BitVec 7) : code7 value = BitVec.ofNat 16 (value.toNat * 2 ^ 9) := by
  rw [code7, Nat.shiftLeft_eq]

/-- The wheel and the two mapped channels are all that CONTROL_CHANGE can write. -/
theorem controlState_eq (controller value : BitVec 7) (s : State) :
    controlState controller value s = { s with
      modWheel := if controller = 1 then value else s.modWheel
      aux := if controller = 2 then s.aux.set 2 (code7 value)
        else if controller = 4 then s.aux.set 3 (code7 value) else s.aux } := by
  rw [← controlState_aux, controlState]
  by_cases hwheel : controller = 1
  · rw [if_pos hwheel, if_pos hwheel]
  · rw [if_neg hwheel, if_neg hwheel]
    by_cases hbreath : controller = 2
    · rw [if_pos hbreath]
    · rw [if_neg hbreath]
      split <;> rfl

/-- Settles O47: the controllers of R177 are named by their numbers, and a value shifted by 9 is a product. -/
theorem controlChangeResult : Obligations.ControlChangeResult := by
  refine ⟨⟨by decide, fun _ => decodeWord_eq_controlChange⟩, fun controller value s => ?_⟩
  have hnumber : ∀ n : Nat, n < 2 ^ 7 → (controller.toNat = n ↔ controller = BitVec.ofNat 7 n) := fun n hn => by
    rw [← BitVec.toNat_inj, BitVec.toNat_ofNat, Nat.mod_eq_of_lt hn]
  rw [exec_controlChange, controlState_eq]
  simp only [hnumber 1 (by decide), hnumber 2 (by decide), hnumber 4 (by decide), code7_eq]
  rfl

theorem exec_pitchBend (bend : BitVec 14) (s : State) :
    exec (.pitchBend bend) s = .next { s with modPitchBend := bend, rsp := none } := rfl

theorem bendTerm_of_centre {s : State} (h : s.modPitchBend = 8192) : bendTerm s = 0 := by
  rw [bendTerm_eq, h]
  simp

/-- One step short of full upward, at a range of two semitones (R178). -/
theorem bendTerm_of_last_step {s : State} (h : s.modPitchBend = 16383) (hrange : s.pitchBendRange = 2) :
    bendTerm s = 255 := by
  rw [bendTerm_eq, h, hrange]
  rfl

/-- Settles O48: the bend term of R126 at the two worked bends. -/
theorem pitchBendResult : Obligations.PitchBendResult :=
  ⟨⟨by decide, fun _ => decodeWord_eq_pitchBend⟩,
    fun bend s => ⟨exec_pitchBend bend s, bendTerm_of_last_step rfl rfl, bendTerm_of_centre rfl⟩⟩

/-! CFG_WRITE (R179). -/

theorem exec_cfgWrite (reg : BitVec 4) (data : BitVec 32) (s : State) :
    exec (.cfgWrite reg data) s = .next { cfgState reg data s with rsp := none } := rfl

theorem data1_eq (data : BitVec 32) : data1 data = decide (data.toNat % 2 = 1) := by
  rw [data1, getLsbD_eq_decide, Nat.pow_zero, Nat.div_one]

theorem cfgState_beyond {reg : BitVec 4} (data : BitVec 32) (s : State) (h : 8 ≤ reg.toNat) :
    cfgState reg data s = s := by
  unfold cfgState
  split
  case h_9 => rfl
  all_goals omega

/-- No register is an input of the glide, of the pitch code, of a channel or of a level. -/
theorem cfgState_outputs (reg : BitVec 4) (data : BitVec 32) (s : State) :
    (cfgState reg data s).outputs = { s.outputs with outTrig := trigCode (cfgState reg data s) } := by
  unfold cfgState
  split <;> rfl

/-- Of the inputs of the envelope code only `trigger_shape` and `trigger_scale` are configuration registers. -/
theorem trigCode_cfgState {reg : BitVec 4} (data : BitVec 32) (s : State) (h : reg.toNat ≤ 5) :
    trigCode (cfgState reg data s) = trigCode s := by
  unfold cfgState
  split
  case h_7 hreg | h_8 hreg => omega
  all_goals rfl

/-- Settles O49: each register by its number; the ports that do not depend on a register are those of before. -/
theorem cfgWriteResult : Obligations.CfgWriteResult := by
  refine ⟨⟨by decide, by decide, fun _ => decodeWord_eq_cfgWrite⟩, fun data s => ?_⟩
  simp only [exec_cfgWrite, ← slice_zero_eq_ofNat, ← data1_eq]
  refine ⟨rfl, rfl, rfl, rfl, rfl, rfl, rfl, rfl, fun reg h => ?_, fun reg => ⟨_, rfl, fun h => ?_, ?_⟩⟩
  · rw [cfgState_beyond data s h]
  · exact (cfgState_outputs reg data s).trans (by rw [trigCode_cfgState data s h]; rfl)
  · exact cfgState_outputs reg data s

/-! NOP and the reserved opcodes (R180, 30_encoding R86). -/

theorem exec_nop (s : State) : exec .nop s = .next { s with rsp := none } := rfl

theorem exec_reservedE (s : State) : exec .reservedE s = .next { s with rsp := none } := rfl

theorem exec_reservedF (s : State) : exec .reservedF s = .next { s with rsp := none } := rfl

/-- Settles O50: opcodes 0, 14 and 15 decode to three different commands, all of which end without an effect. -/
theorem nopAndReservedChangeNothing : Obligations.NopAndReservedChangeNothing :=
  ⟨⟨by decide, fun _ => decodeWord_eq_nop⟩, fun _ => decodeWord_eq_reservedE, fun _ => decodeWord_eq_reservedF,
    by decide, by decide, fun s => ⟨exec_nop s, exec_reservedE s, exec_reservedF s⟩⟩

end Sys2Proof.Laws

/-! Serialised commands and commands as integers (30_encoding R83, R84, 20_memory R62). -/

namespace Sys2Proof.Laws

open Sys2Proof.Machine

/-- The operand types are exactly as wide as the ranges of R84. -/
theorem instr_wellFormed (i : Instr) : i.WellFormed := by
  cases i with
  | nop => exact OperandsInRange.nop
  | init rc => exact OperandsInRange.init rc
  | calWrite idx code => exact OperandsInRange.calWrite idx code
  | noteOn note velocity amount trigger => exact OperandsInRange.noteOn note velocity amount trigger
  | noteOff => exact OperandsInRange.noteOff
  | controlChange controller value => exact OperandsInRange.controlChange controller value
  | pitchBend bend => exact OperandsInRange.pitchBend bend
  | cfgWrite reg data => exact OperandsInRange.cfgWrite reg data
  | refresh => exact OperandsInRange.refresh
  | rdNote => exact OperandsInRange.rdNote
  | rdTrig => exact OperandsInRange.rdTrig
  | rdAux ch => exact OperandsInRange.rdAux ch
  | rdStatus => exact OperandsInRange.rdStatus
  | rdCal idx => exact OperandsInRange.rdCal idx
  | reservedE => exact OperandsInRange.reservedE
  | reservedF => exact OperandsInRange.reservedF

/-! Bytes (R62). -/

theorem wordOfBytes_toNat (b0 b1 b2 b3 b4 : Byte) :
    (wordOfBytes b0 b1 b2 b3 b4).toNat =
      b0.toNat * 2 ^ 32 + b1.toNat * 2 ^ 24 + b2.toNat * 2 ^ 16 + b3.toNat * 2 ^ 8 + b4.toNat := by
  simp only [wordOfBytes, append_toNat]
  omega

theorem wordOfBytes_eq_ofNat (b0 b1 b2 b3 b4 : Byte) :
    wordOfBytes b0 b1 b2 b3 b4 = BitVec.ofNat 40
      (b0.toNat * 2 ^ 32 + b1.toNat * 2 ^ 24 + b2.toNat * 2 ^ 16 + b3.toNat * 2 ^ 8 + b4.toNat) := by
  rw [← wordOfBytes_toNat, BitVec.ofNat_toNat, BitVec.setWidth_eq]

theorem wordOfBytes_slices (w : CmdWord) :
    wordOfBytes (slice w 32 8) (slice w 24 8) (slice w 16 8) (slice w 8 8) (slice w 0 8) = w := by
  have hw := w.isLt
  apply BitVec.eq_of_toNat_eq
  simp only [wordOfBytes_toNat, slice_toNat]
  omega

/-- Reading one command off the bytes of a word and whatever follows it. -/
theorem decodeBytes_bytesOfWord_append (w : CmdWord) (rest : List Byte) :
    decodeBytes (bytesOfWord w ++ rest) = .ok (decodeWord w, rest) := by
  simp only [bytesOfWord, List.cons_append, List.nil_append, decodeBytes, wordOfBytes_slices]

theorem decodeBytes_encodeBytes_append (i : Instr) (rest : List Byte) :
    decodeBytes (encodeBytes i ++ rest) = .ok (i, rest) := by
  rw [encodeBytes, decodeBytes_bytesOfWord_append, decodeWord_encode]

theorem bytesOfResponse_toNat (v : Code) :
    (bytesOfResponse v).map BitVec.toNat = [v.toNat / 2 ^ 8, v.toNat % 2 ^ 8] := by
  have hv := v.isLt
  have hhigh : v.toNat / 2 ^ 8 % 2 ^ 8 = v.toNat / 2 ^ 8 := by omega
  simp only [bytesOfResponse, List.map_cons, List.map_nil, slice_toNat, hhigh, Nat.pow_zero, Nat.div_one]

/-- Settles O1: the decoder reads each operand where the encoder writes it, and five bytes carry the whole word. -/
theorem decodeOfEncode : Obligations.DecodeOfEncode :=
  fun i rest _ => ⟨decodeWord_encode i, decodeBytes_encodeBytes_append i rest⟩

/-- Settles O2: the encoder writes exactly the meaningful bits of the word. -/
theorem encodeOfDecode : Obligations.EncodeOfDecode :=
  fun w => ⟨encode_decodeWord w, instr_wellFormed (decodeWord w)⟩

/-- Settles O4, by evaluation of the decoder on the seven words. -/
theorem workedWordsDecode : Obligations.WorkedWordsDecode := by
  unfold Obligations.WorkedWordsDecode
  decide

/-- Settles O6: a concatenation of bytes is a sum weighted by powers of `2^8`. -/
theorem bytesAreMostSignificantFirst : Obligations.BytesAreMostSignificantFirst :=
  ⟨fun b0 b1 b2 b3 b4 rest => by rw [decodeBytes, wordOfBytes_eq_ofNat], bytesOfResponse_toNat⟩

/-! The operands read as integers and stored again (R84). -/

theorem ofInt_toNat {w : Nat} (v : BitVec w) : BitVec.ofInt w (v.toNat : Int) = v := by
  rw [BitVec.ofInt_natCast, BitVec.ofNat_toNat, BitVec.setWidth_eq]

theorem decide_toNat_ne_zero (b : Bool) : decide ((b.toNat : Int) ≠ 0) = b := by
  cases b <;> rfl

/-- Settles O60, row by row of the opcode map: the check passes, and each integer is stored as the operand it was. -/
theorem operandsMakeCommand : Obligations.OperandsMakeCommand := by
  intro i
  rw [RawCommand.toInstr?, if_pos (instr_wellFormed i)]
  cases i with
  | nop | noteOff | refresh | rdNote | rdTrig | rdStatus | reservedE | reservedF => rfl
  | init rc => exact congrArg (some ∘ Instr.init) (decide_toNat_ne_zero rc)
  | noteOn note velocity amount trigger =>
    simp only [Instr.raw, Instr.opc, Instr.operandValues, BitVec.reduceToNat, ofInt_toNat, BitVec.ofInt_toInt,
      decide_toNat_ne_zero]
  | calWrite idx code | controlChange controller value | pitchBend bend | cfgWrite reg data | rdAux ch | rdCal idx =>
    simp only [Instr.raw, Instr.opc, Instr.operandValues, BitVec.reduceToNat, ofInt_toNat]

end Sys2Proof.Laws

/-! What a command leaves and what it responds, said once for all commands (30_encoding R81, R82), and the steps of the
host's stream (60_exceptions R200, R207, R211, 70_reset R220). -/

namespace Sys2Proof.Laws

open Sys2Proof.Machine

/-- The state a command leaves, but for its response. -/
def commandState (i : Instr) (s : State) : State :=
  match i with
  | .nop => s
  | .init rc => initState rc s
  | .calWrite idx code =>
      if calIndexExists idx then { s with cal := s.cal.setIfInBounds idx.toNat code, dirty := true } else s
  | .noteOn note velocity amount trigger => noteOnState note velocity amount trigger s
  | .noteOff => { s with gate := false }
  | .controlChange controller value => controlState controller value s
  | .pitchBend bend => { s with modPitchBend := bend }
  | .cfgWrite reg data => cfgState reg data s
  | .refresh => refreshState s
  | .rdNote => s
  | .rdTrig => s
  | .rdAux _ => s
  | .rdStatus => s
  | .rdCal _ => s
  | .reservedE => s
  | .reservedF => s

/-- The response of a command (R82). -/
def commandResponse (i : Instr) (s : State) : Option Code :=
  match i with
  | .rdNote => some s.noteDacCode
  | .rdTrig => some (trigCode s)
  | .rdAux ch => some (bounded s.aux ch.toNat)
  | .rdStatus => some (statusWord s)
  | .rdCal idx => some (bounded s.cal idx.toNat)
  | _ => none

/-- Every command completes, with this state and this response. -/
theorem exec_eq_next (i : Instr) (s : State) :
    exec i s = .next { commandState i s with rsp := commandResponse i s } := by
  cases i <;> rfl

/-- All that a command can answer. -/
theorem exec_eq_next_iff {i : Instr} {s t : State} :
    exec i s = .next t ↔ t = { commandState i s with rsp := commandResponse i s } := by
  rw [exec_eq_next, Host.Outcome.next.injEq, eq_comm]

/-! Steps of the host's stream. -/

/-- A step takes the first event of the stream and its effect: nothing, the reset state, or what a command leaves. -/
theorem step_cases (s : State) :
    (s.hostStream = [] ∧ step s = .next { s with rsp := none }) ∨
    (∃ rest, s.hostStream = .resetPulse :: rest ∧ step s = .next (hardwareReset { s with hostStream := rest })) ∨
    ∃ w rest, s.hostStream = .command w :: rest ∧ step s = exec (decodeWord w) { s with hostStream := rest } := by
  unfold step
  split
  next hstream => exact .inl ⟨hstream, rfl⟩
  next rest hstream => exact .inr (.inl ⟨rest, hstream, rfl⟩)
  next w rest hstream => exact .inr (.inr ⟨w, rest, hstream, rfl⟩)

theorem step_of_empty_stream {s : State} (h : s.hostStream = []) : step s = .next { s with rsp := none } := by
  simp only [step, h, silent]

theorem step_of_resetPulse {s : State} {rest : List PortEvent} (h : s.hostStream = .resetPulse :: rest) :
    step s = .next (hardwareReset { s with hostStream := rest }) := by
  simp only [step, h]

theorem step_of_command {s : State} {w : CmdWord} {rest : List PortEvent} (h : s.hostStream = .command w :: rest) :
    step s = exec (decodeWord w) { s with hostStream := rest } := by
  simp only [step, h]

theorem step_completes (s : State) : ∃ t, step s = .next t := by
  rcases step_cases s with ⟨-, h⟩ | ⟨rest, -, h⟩ | ⟨w, rest, -, h⟩
  · exact ⟨_, h⟩
  · exact ⟨_, h⟩
  · exact ⟨_, h.trans (exec_eq_next _ _)⟩

theorem tableWord_full (w : CmdWord) : tableWord 40 w.toNat = w := by
  rw [tableWord, Nat.mod_eq_of_lt w.isLt, BitVec.ofNat_toNat, BitVec.setWidth_eq]

theorem decodeTableWord_full (w : CmdWord) : decodeTableWord 40 w.toNat = some (decodeWord w) := by
  have hbytes := decodeBytes_bytesOfWord_append w []
  rw [List.append_nil] at hbytes
  simp only [decodeTableWord, tableWord_full, hbytes]

/-- Settles O7: the step on a presented word, and the word that `withFetchWord` presents is the whole of `w`. -/
theorem stepRunsDecodedCommand : Obligations.StepRunsDecodedCommand := by
  refine ⟨fun s w rest => step_of_command, fun s w => ⟨decodeTableWord_full w, ?_⟩⟩
  rw [State.withFetchWord, tableWord_full, step_command]

/-- A pulse of `rst_n` leaves the state that INIT 1 leaves. -/
theorem hardwareReset_eq (s : State) :
    hardwareReset s = { State.reset with rom := s.rom, hostStream := s.hostStream } :=
  Host.Outcome.next.inj (exec_init_default_table s)

/-- Settles O8: nothing is presented, or a reset pulse is. -/
theorem idleAndResetPulseSteps : Obligations.IdleAndResetPulseSteps :=
  ⟨fun _ => step_of_empty_stream, fun _ _ h => by rw [step_of_resetPulse h, hardwareReset_eq]⟩

/-- Settles O9: every command has a state that it leaves. -/
theorem everyStepCompletes : Obligations.EveryStepCompletes :=
  ⟨fun i s => ⟨_, exec_eq_next i s⟩, step_completes⟩

/-- Settles O11: at reset the envelope is idle, so OUT_TRIG is the zero-volt entry; the other ports are fields. -/
theorem resetOutputPorts : Obligations.ResetOutputPorts := by
  refine ⟨rfl, trigCode_of_phase_le (s := State.reset) le_rfl, fun i h => ?_, rfl, rfl, rfl, rfl⟩
  interval_cases i <;> rfl

/-- Settles O59: the step of a voice completes and only that voice's entry is replaced. -/
theorem voicesAreIndependent : Obligations.VoicesAreIndependent := by
  intro c i
  obtain ⟨t, ht⟩ := step_completes c.voices[i]
  refine ⟨{ voices := c.voices.set i t }, ?_, ?_, fun j hj => ?_⟩
  · simp only [Converter.stepVoice, ht]
  · simpa using ht
  · exact Vector.getElem_set_ne i.isLt j.isLt fun h => hj (Fin.ext h.symm)

/-! Who writes what. -/

/-- CFG_WRITE writes nothing but configuration registers (10_state R28 to R43). -/
theorem cfgState_frame (reg : BitVec 4) (data : BitVec 32) (s : State) :
    cfgState reg data s = { s with
      modulationRate := (cfgState reg data s).modulationRate
      pitchBendRange := (cfgState reg data s).pitchBendRange
      vibratoRange := (cfgState reg data s).vibratoRange
      tuning := (cfgState reg data s).tuning
      lfoPllPhaseIncrement := (cfgState reg data s).lfoPllPhaseIncrement
      triggerDuration := (cfgState reg data s).triggerDuration
      triggerShape := (cfgState reg data s).triggerShape
      triggerScale := (cfgState reg data s).triggerScale } := by
  unfold cfgState
  split <;> rfl

theorem commandState_gate_eq_true_iff (i : Instr) (s : State) :
    (commandState i s).gate = true ↔
      (∃ note velocity amount trigger, i = .noteOn note velocity amount trigger) ∨
        (s.gate = true ∧ i ≠ .noteOff ∧ ∀ rc, i ≠ .init rc) := by
  cases i with
  | noteOn note velocity amount trigger => simp [commandState]
  | calWrite idx code => simp [commandState, apply_ite State.gate]
  | controlChange controller value => simp [commandState, controlState_eq]
  | cfgWrite reg data =>
    rw [commandState, cfgState_frame]
    simp
  | noteOff | init => simp [commandState, initState]
  | nop | pitchBend | refresh | rdNote | rdTrig | rdAux | rdStatus | rdCal | reservedE | reservedF =>
    simp [commandState]

theorem commandState_dirty_eq_true_iff (i : Instr) (s : State) :
    (commandState i s).dirty = true ↔
      (∃ idx code, i = .calWrite idx code ∧ idx.toNat ≤ 10) ∨
        (s.dirty = true ∧ i ≠ .refresh ∧ ∀ rc, i ≠ .init rc) := by
  cases i with
  | calWrite idx code =>
    by_cases h : idx.toNat ≤ 10 <;> simp [commandState, calIndexExists, h]
  | refresh => simp [commandState, refreshState_dirty_eq_false, -refreshState_dirty]
  | noteOn note velocity amount trigger => simp [commandState]
  | controlChange controller value => simp [commandState, controlState_eq]
  | cfgWrite reg data =>
    rw [commandState, cfgState_frame]
    simp
  | init => simp [commandState, initState]
  | nop | noteOff | pitchBend | rdNote | rdTrig | rdAux | rdStatus | rdCal | reservedE | reservedF =>
    simp [commandState]

/-- The commands that leave the calibration table as it is. -/
theorem commandState_cal_of_not_writer {i : Instr} (s : State) (hwrite : ∀ idx code, i ≠ .calWrite idx code)
    (hinit : i ≠ .init true) : (commandState i s).cal = s.cal := by
  cases i with
  | calWrite idx code => exact absurd rfl (hwrite idx code)
  | init rc =>
    cases rc with
    | true => exact absurd rfl hinit
    | false => rfl
  | noteOn note velocity amount trigger => exact noteOnState_cal note velocity amount trigger s
  | controlChange controller value => rw [commandState, controlState_eq]
  | cfgWrite reg data => rw [commandState, cfgState_frame]
  | refresh => exact refreshState_cal s
  | nop | noteOff | pitchBend | rdNote | rdTrig | rdAux | rdStatus | rdCal | reservedE | reservedF => rfl

/-- CAL_WRITE changes no entry but the one it names. -/
theorem index_eq_of_calWrite_changes {idx : BitVec 4} {code : Code} {s : State} {j : Nat} (hj : j < 11)
    (h : (commandState (.calWrite idx code) s).cal[j] ≠ s.cal[j]) : idx.toNat = j := by
  rw [commandState] at h
  by_cases hidx : idx.toNat < 11
  · simp only [(calIndexExists_eq_true_iff idx).2 hidx, if_true, setIfInBounds_eq_set s.cal hidx] at h
    exact (index_eq_of_set_changes hj h).symm
  · simp only [calIndexExists_eq_true_iff, hidx, if_false, ne_eq, not_true_eq_false] at h

theorem commandState_lfoPhase_of_not_writer {i : Instr} (s : State) (hrefresh : i ≠ .refresh)
    (hinit : ∀ rc, i ≠ .init rc) : (commandState i s).lfoPhase = s.lfoPhase := by
  cases i with
  | refresh => exact absurd rfl hrefresh
  | init rc => exact absurd rfl (hinit rc)
  | calWrite idx code => exact (apply_ite State.lfoPhase _ _ _).trans (ite_self _)
  | noteOn note velocity amount trigger => exact noteOnState_lfoPhase note velocity amount trigger s
  | controlChange controller value => rw [commandState, controlState_eq]
  | cfgWrite reg data => rw [commandState, cfgState_frame]
  | nop | noteOff | pitchBend | rdNote | rdTrig | rdAux | rdStatus | rdCal | reservedE | reservedF => rfl

theorem commandState_rom_and_hostStream (i : Instr) (s : State) :
    (commandState i s).rom = s.rom ∧ (commandState i s).hostStream = s.hostStream := by
  cases i with
  | calWrite idx code =>
    exact ⟨(apply_ite State.rom _ _ _).trans (ite_self _), (apply_ite State.hostStream _ _ _).trans (ite_self _)⟩
  | noteOn note velocity amount trigger =>
    exact ⟨noteOnState_rom note velocity amount trigger s, noteOnState_hostStream note velocity amount trigger s⟩
  | controlChange controller value =>
    rw [commandState, controlState_eq]
    exact ⟨rfl, rfl⟩
  | cfgWrite reg data =>
    rw [commandState, cfgState_frame]
    exact ⟨rfl, rfl⟩
  | nop | init | noteOff | pitchBend | refresh | rdNote | rdTrig | rdAux | rdStatus | rdCal | reservedE
  | reservedF => exact ⟨rfl, rfl⟩

theorem commandResponse_isSome_iff (i : Instr) (s : State) :
    (commandResponse i s).isSome = true ↔ 9 ≤ i.opc.toNat ∧ i.opc.toNat ≤ 13 := by
  cases i <;> simp [commandResponse, Instr.opc]

theorem commandState_of_read {i : Instr} (s : State) (h : 9 ≤ i.opc.toNat) : commandState i s = s := by
  cases i with
  | rdNote | rdTrig | rdAux | rdStatus | rdCal | reservedE | reservedF => rfl
  | _ => simp [Instr.opc] at h

/-- Settles O51: the commands with a response are those that leave the state as it is but for it. -/
theorem onlyReadsRespond : Obligations.OnlyReadsRespond := by
  intro i s t h
  obtain rfl := exec_eq_next_iff.1 h
  refine ⟨commandResponse_isSome_iff i s, fun hread _ => ?_⟩
  rw [commandState_of_read s hread]
  exact ⟨rfl, rfl⟩

/-- Settles O52, command by command: what each leaves in `gate`. -/
theorem gateWriters : Obligations.GateWriters := by
  intro i s t h
  obtain rfl := exec_eq_next_iff.1 h
  exact commandState_gate_eq_true_iff i s

/-- Settles O53, command by command: what each leaves in `dirty`. -/
theorem dirtyWriters : Obligations.DirtyWriters := by
  intro i s t h
  obtain rfl := exec_eq_next_iff.1 h
  exact commandState_dirty_eq_true_iff i s

/-- Settles O54: a command that changes the table is CAL_WRITE or INIT 1, and CAL_WRITE changes one entry. -/
theorem calibrationWriters : Obligations.CalibrationWriters := by
  intro i s t h j hj hchanged
  obtain rfl := exec_eq_next_iff.1 h
  by_cases hinit : i = .init true
  · exact .inr hinit
  by_cases hwrite : ∃ idx code, i = .calWrite idx code
  · obtain ⟨idx, code, rfl⟩ := hwrite
    exact .inl ⟨idx, code, rfl, index_eq_of_calWrite_changes hj hchanged⟩
  · push Not at hwrite
    simp only [commandState_cal_of_not_writer s hwrite hinit, ne_eq, not_true_eq_false] at hchanged

/-- Settles O55, command by command: only a tick and INIT write the oscillator's phase. -/
theorem lfoPhaseWriters : Obligations.LfoPhaseWriters := by
  intro i s t h hrefresh hinit
  obtain rfl := exec_eq_next_iff.1 h
  exact commandState_lfoPhase_of_not_writer s hrefresh hinit

/-- Settles O56: each kind of step takes its event off the stream, and no command writes a ROM or the stream. -/
theorem romsNeverChange : Obligations.RomsNeverChange := by
  intro s t h
  rcases step_cases s with ⟨hstream, hstep⟩ | ⟨rest, hstream, hstep⟩ | ⟨w, rest, hstream, hstep⟩ <;>
    rw [hstep] at h <;> rw [hstream]
  · cases h
    exact ⟨rfl, hstream⟩
  · cases h
    exact ⟨rfl, rfl⟩
  · obtain rfl := exec_eq_next_iff.1 h
    exact commandState_rom_and_hostStream (decodeWord w) { s with hostStream := rest }

end Sys2Proof.Laws

/-! The shape of the quantizer and the loading of its table (40_quantizer R100 to R102, R105, 20_memory R70). -/

namespace Sys2Proof.Laws

open Sys2Proof.Machine

/-! The octave loop (R101). -/

/-- With enough subtractions left the loop counts the octaves in what remains. -/
theorem octaveLoop_eq {fuel n : Nat} (octave : Nat) (h : n < (fuel + 1) * 1536) :
    octaveLoop fuel octave n = (octave + n / 1536, n % 1536) := by
  induction fuel generalizing octave n with
  | zero =>
    rw [octaveLoop, Nat.div_eq_of_lt (by omega), Nat.mod_eq_of_lt (by omega), Nat.add_zero]
  | succ fuel ih =>
    rw [octaveLoop, Config.kOctave]
    split
    next hle =>
      have hdiv : octave + 1 + (n - 1536) / 1536 = octave + n / 1536 := by omega
      have hmod : (n - 1536) % 1536 = n % 1536 := by omega
      rw [ih _ (by omega), hdiv, hmod]
    next hlt => rw [Nat.div_eq_of_lt (by omega), Nat.mod_eq_of_lt (by omega), Nat.add_zero]

/-- Settles O15: the range is ten octaves, so nine subtractions are enough. -/
theorem octaveLoopDivides : Obligations.OctaveLoopDivides := by
  intro n hn
  refine ⟨?_, by omega⟩
  rw [octaveLoop_eq 0 (by omega), Nat.zero_add]

/-! The edges of the range and the entries around a pitch (R100, R102). -/

/-- The octave of a clamped pitch has an entry on each side of it. -/
theorem octave_exists (note : Int) : ∃ k : Nat, k + 1 < 11 ∧ min (max note 0) 15359 / 1536 = (k : Int) :=
  ⟨(min (max note 0) 15359 / 1536).toNat, by omega, by omega⟩

theorem quantize_toNat (cal : Vector Code 11) (note : Int) {k : Nat} (h : k + 1 < 11)
    (hk : min (max note 0) 15359 / 1536 = (k : Int)) :
    ((quantize cal note).toNat : Int) = cal[k].toNat +
      (((cal[k + 1].toNat : Int) - cal[k].toNat) * (min (max note 0) 15359 % 1536)).tdiv 1536 :=
  quantizeInterpolates cal note k h hk

theorem quantize_between (cal : Vector Code 11) (note : Int) {k : Nat} (h : k + 1 < 11)
    (hk : min (max note 0) 15359 / 1536 = (k : Int)) :
    min cal[k].toNat cal[k + 1].toNat ≤ (quantize cal note).toNat ∧
      (quantize cal note).toNat ≤ max cal[k].toNat cal[k + 1].toNat := by
  have hvalue := quantize_toNat cal note h hk
  have hbetween := tdiv_fraction_between (d := (cal[k + 1].toNat : Int) - cal[k].toNat)
    (r := min (max note 0) 15359 % 1536) (m := 1536) (by omega) (by omega)
  omega

/-- The quantizer sees a pitch only through its clamp. -/
theorem quantize_congr (cal : Vector Code 11) {n1 n2 : Int} (h : min (max n1 0) 15359 = min (max n2 0) 15359) :
    quantize cal n1 = quantize cal n2 := by
  obtain ⟨k, hk, hoctave⟩ := octave_exists n2
  have hoctave' : min (max n1 0) 15359 / 1536 = (k : Int) := by rw [h, hoctave]
  rw [quantize_eq cal n2 hk hoctave, quantize_eq cal n1 hk hoctave']
  simp only [h]

/-- At an octave boundary nothing remains to interpolate. -/
theorem quantize_octave (cal : Vector Code 11) {k : Nat} (h : k < 10) :
    quantize cal ((k * 1536 : Nat) : Int) = cal[k] := by
  have hrem : min (max ((k * 1536 : Nat) : Int) 0) 15359 % 1536 = 0 := by omega
  have hvalue := quantize_toNat cal (k * 1536 : Nat) (k := k) (by omega) (by omega)
  rw [hrem, mul_zero, Int.zero_tdiv, add_zero] at hvalue
  exact BitVec.eq_of_toNat_eq (by exact_mod_cast hvalue)

/-- Settles O13: the interpolated distance is a truncated proper fraction; the clamp makes every pitch below the range 0
and every pitch above it 15359. -/
theorem quantizeEdges : Obligations.QuantizeEdges := by
  intro cal
  refine ⟨fun note k h hk => quantize_between cal note h hk, fun note hlow => ?_, fun note hhigh => ?_,
    fun k h => quantize_octave cal h⟩
  · exact (quantize_congr cal (by omega)).trans (quantize_octave cal (k := 0) (by decide))
  · exact quantize_congr cal (by omega)

/-! Monotonicity (R102). -/

theorem entries_le_of_nondecreasing {cal : Vector Code 11}
    (hcal : ∀ i, (h : i + 1 < 11) → cal[i].toNat ≤ cal[i + 1].toNat) {i j : Nat} (hij : i ≤ j) (hj : j < 11) :
    cal[i].toNat ≤ cal[j].toNat := by
  induction j, hij using Nat.le_induction with
  | base => exact le_rfl
  | succ j hij ih => exact (ih (by omega)).trans (hcal j hj)

/-- In one octave the truncated fraction grows with the remainder; in different octaves the two codes are separated by
an entry between them. -/
theorem quantize_le_of_nondecreasing {cal : Vector Code 11} {n1 n2 : Int} (hn : n1 ≤ n2)
    (hcal : ∀ i, (h : i + 1 < 11) → cal[i].toNat ≤ cal[i + 1].toNat) :
    (quantize cal n1).toNat ≤ (quantize cal n2).toNat := by
  obtain ⟨k1, h1, hk1⟩ := octave_exists n1
  obtain ⟨k2, h2, hk2⟩ := octave_exists n2
  have hoctaves : k1 ≤ k2 := by omega
  rcases hoctaves.eq_or_lt with rfl | hlt
  · have hd : (0 : Int) ≤ (cal[k1 + 1].toNat : Int) - cal[k1].toNat := by
      have := hcal k1 h1
      omega
    have hr : min (max n1 0) 15359 % 1536 ≤ min (max n2 0) 15359 % 1536 := by omega
    have hfraction := Int.tdiv_le_tdiv (c := 1536) (by decide) (mul_le_mul_of_nonneg_left hr hd)
    have hq1 := quantize_toNat cal n1 h1 hk1
    have hq2 := quantize_toNat cal n2 h1 hk2
    omega
  · have hq1 := (quantize_between cal n1 h1 hk1).2
    have hq2 := (quantize_between cal n2 h2 hk2).1
    have hmiddle := entries_le_of_nondecreasing hcal (i := k1 + 1) (j := k2) hlt (by omega)
    have hup1 := hcal k1 h1
    have hup2 := hcal k2 h2
    omega

/-- The table of the complemented codes: it falls where the table rises. -/
def complementTable (cal : Vector Code 11) : Vector Code 11 := cal.map (~~~ ·)

theorem complementTable_toNat (cal : Vector Code 11) {i : Nat} (h : i < 11) :
    (complementTable cal)[i].toNat = 2 ^ 16 - 1 - cal[i].toNat := by
  rw [complementTable, Vector.getElem_map, BitVec.toNat_not]

/-- Truncation toward zero is odd, so complementing the table complements every code. -/
theorem quantize_complementTable (cal : Vector Code 11) (note : Int) :
    ((quantize (complementTable cal) note).toNat : Int) = 2 ^ 16 - 1 - (quantize cal note).toNat := by
  obtain ⟨k, h, hk⟩ := octave_exists note
  have hlow := complementTable_toNat cal (i := k) (by omega)
  have hhigh := complementTable_toNat cal h
  have hlt := cal[k].isLt
  have hlt' := cal[k + 1].isLt
  have hdistance : ((complementTable cal)[k + 1].toNat : Int) - (complementTable cal)[k].toNat =
      -((cal[k + 1].toNat : Int) - cal[k].toNat) := by
    omega
  rw [quantize_toNat _ note h hk, quantize_toNat cal note h hk, hdistance, neg_mul, Int.neg_tdiv]
  omega

/-- Settles O14: for a falling table, by the rising one of the complemented codes. -/
theorem quantizeMonotone : Obligations.QuantizeMonotone := by
  refine fun cal n1 n2 hn => ⟨quantize_le_of_nondecreasing hn, fun hcal => ?_⟩
  have hcomplement : ∀ i, (h : i + 1 < 11) →
      (complementTable cal)[i].toNat ≤ (complementTable cal)[i + 1].toNat := fun i h => by
    rw [complementTable_toNat, complementTable_toNat]
    exact Nat.sub_le_sub_left (hcal i h) _
  have hle := quantize_le_of_nondecreasing hn hcomplement
  have h1 := quantize_complementTable cal n1
  have h2 := quantize_complementTable cal n2
  omega

/-! Loading the table (R105). -/

/-- The CAL_WRITE commands that write these entries of a table. -/
def entryWrites (codes : Vector Code 11) (indices : List (Fin 11)) : List Instr :=
  indices.map fun i => .calWrite (BitVec.ofNat 4 i.val) codes[i]

/-- A table after these entries have been written from another. -/
def writtenTable (codes : Vector Code 11) (indices : List (Fin 11)) (cal : Vector Code 11) : Vector Code 11 :=
  indices.foldl (fun table (i : Fin 11) => table.set i codes[i]) cal

theorem calibrate_expand (codes : Vector Code 11) :
    (Pseudo.calibrate codes).expand = entryWrites codes (List.finRange 11) := rfl

theorem exec_entryWrite (codes : Vector Code 11) (i : Fin 11) (s : State) :
    exec (.calWrite (BitVec.ofNat 4 i.val) codes[i]) s =
      .next { s with cal := s.cal.set i codes[i], dirty := true, rsp := none } := by
  have hi : (BitVec.ofNat 4 i.val).toNat = i.val := by
    rw [BitVec.toNat_ofNat]
    omega
  rw [exec_calWrite_inside _ s (by omega)]
  simp only [hi]

/-- One write after the other, the first of which sets `dirty`. -/
theorem execAll_entryWrites (codes : Vector Code 11) {indices : List (Fin 11)} (h : indices ≠ []) (s : State) :
    execAll (entryWrites codes indices) s =
      .next { s with cal := writtenTable codes indices s.cal, dirty := true, rsp := none } := by
  induction indices generalizing s with
  | nil => exact absurd rfl h
  | cons i is ih =>
    have hfirst := execAll_cons_next _ (entryWrites codes is) _ _ (exec_entryWrite codes i s)
    cases is with
    | nil => exact hfirst
    | cons j js => exact hfirst.trans (ih (List.cons_ne_nil j js) _)

/-- A written entry holds the new code, another one what it held. -/
theorem writtenTable_getElem (codes : Vector Code 11) (indices : List (Fin 11)) (cal : Vector Code 11) (j : Fin 11) :
    (writtenTable codes indices cal)[j] = if j ∈ indices then codes[j] else cal[j] := by
  induction indices generalizing cal with
  | nil => rfl
  | cons i is ih =>
    have hset : (cal.set i codes[i])[j] = if j = i then codes[j] else cal[j] := by
      by_cases h : j = i
      · subst h
        simp
      · rw [if_neg h]
        exact Vector.getElem_set_ne i.isLt j.isLt fun heq => h (Fin.ext heq.symm)
    change (writtenTable codes is (cal.set i codes[i]))[j] = _
    rw [ih, hset]
    by_cases htail : j ∈ is <;> simp [htail]

theorem writtenTable_all (codes cal : Vector Code 11) : writtenTable codes (List.finRange 11) cal = codes := by
  refine Vector.ext fun j hj => ?_
  exact (writtenTable_getElem codes _ cal ⟨j, hj⟩).trans (if_pos (List.mem_finRange _))

/-- Settles O19: the eleven indices are all the indices of the table. -/
theorem calibrateLoadsTable : Obligations.CalibrateLoadsTable := by
  intro codes s
  have hindices : List.finRange 11 ≠ [] := by decide
  rw [calibrate_expand, execAll_entryWrites codes hindices, writtenTable_all]

/-! The code after a tick (42_pitch_pipeline R128, 20_memory R70). -/

/-- A tick leaves a fresh code, if the code was fresh before or a calibration change was pending. -/
theorem refreshState_noteDacCode_fresh {s : State}
    (h : s.dirty = false → s.noteDacCode = quantize s.cal s.currentNote.toInt) :
    (refreshState s).noteDacCode = quantize s.cal (refreshState s).currentNote.toInt := by
  rw [refreshState_currentNote_toInt]
  by_cases hdue : composedPitch s ≠ s.currentNote.toInt ∨ s.dirty = true
  · exact refreshState_noteDacCode_of_due hdue
  · obtain ⟨hnote, hdirty⟩ : composedPitch s = s.currentNote.toInt ∧ s.dirty = false := by simpa using hdue
    rw [refreshState_noteDacCode_of_not_due hnote hdirty, h hdirty, hnote]

/-- Settles O20: CAL_WRITE leaves the register, and the `dirty` that it sets makes the next tick publish. -/
theorem pitchCodeStaleUntilRefresh : Obligations.PitchCodeStaleUntilRefresh := by
  intro idx code s hidx
  refine ⟨_, _, exec_calWrite_inside code s (by omega), rfl, rfl, exec_refresh_eq_next_iff.2 rfl, ?_, ?_⟩
  · exact refreshState_noteDacCode_fresh fun hclear => Bool.noConfusion hclear
  · exact refreshState_dirty_eq_false _

end Sys2Proof.Laws

/-! The lookup and the increments of the glide as functions, the triangle (41_glide R112, R114, 43_lfo R142). -/

namespace Sys2Proof.Laws

open Sys2Proof.Machine

/-! The interpolating lookup (R112). -/

/-- Short of the second entry: the fraction is below one. -/
theorem interp824_eq_second_only_if {entry : Nat → Int} {phase : Phase}
    (h : interp824 entry phase = entry (phase.toNat / 2 ^ 24 + 1)) :
    entry (phase.toNat / 2 ^ 24 + 1) ≤ entry (phase.toNat / 2 ^ 24) := by
  by_contra! hrises
  rw [interp824_eq] at h
  have hshort : (entry (phase.toNat / 2 ^ 24 + 1) - entry (phase.toNat / 2 ^ 24)) *
      (phase.toNat / 2 ^ 8 % 2 ^ 16 : Nat) <
        (entry (phase.toNat / 2 ^ 24 + 1) - entry (phase.toNat / 2 ^ 24)) * 2 ^ 16 :=
    mul_lt_mul_of_pos_left (by omega) (by omega)
  omega

theorem interp824_of_fraction_zero (entry : Nat → Int) {phase : Phase} (h : phase.toNat / 2 ^ 8 % 2 ^ 16 = 0) :
    interp824 entry phase = entry (phase.toNat / 2 ^ 24) := by
  rw [interp824_eq, h]
  simp

/-- Entry number and fraction are fields of the phase without its low eight bits. -/
theorem interp824_congr (entry : Nat → Int) {phase phase' : Phase} (h : phase'.toNat / 2 ^ 8 = phase.toNat / 2 ^ 8) :
    interp824 entry phase' = interp824 entry phase := by
  have hindex : phase'.toNat / 2 ^ 24 = phase.toNat / 2 ^ 24 := by omega
  rw [interp824_eq, interp824_eq, hindex, h]

/-- Settles O21: the fraction is a proper one of the distance, and the low eight bits are in neither field. -/
theorem interpolationBetweenEntries : Obligations.InterpolationBetweenEntries := by
  intro entry phase i f
  have hbetween := interp824_between entry phase
  have hindex := phase_index_inside phase
  exact ⟨interp824_eq entry phase, by omega, hbetween.1, hbetween.2, interp824_eq_second_only_if,
    interp824_of_fraction_zero entry, fun _ => interp824_congr entry⟩

/-! Shape B increments (R114). -/

/-- Settles O23: the clamp gives the bounds; at an octave the factor 1536 cancels. -/
theorem shapeBIncrementBounds : Obligations.ShapeBIncrementBounds := by
  intro base delta _
  have hvalue := shapeBIncrement_toNat base delta
  refine ⟨by omega, by omega, fun hsmall => ?_, fun hlarge => ?_, fun hlow hhigh => ?_⟩
  · have hq : base.toNat / 2 ^ 11 = 0 := by omega
    rw [hq, Nat.mul_zero, Nat.zero_div, Nat.zero_mul] at hvalue
    exact BitVec.eq_of_toNat_eq (by simpa using hvalue)
  · have hvalue := shapeBIncrement_toNat base 1
    apply BitVec.eq_of_toNat_eq
    rw [Nat.div_one] at hvalue
    change _ = 2 ^ 31 - 1
    omega
  · have hvalue := shapeBIncrement_toNat base 1536
    rw [Nat.mul_div_cancel_left _ (by decide)] at hvalue
    omega

/-! The triangle (43_lfo R142). -/

theorem lfoWave_of_first_half {phase : Phase} (h : phase.toNat < 2 ^ 31) :
    lfoWave phase = -32768 + (phase.toNat / 2 ^ 15 : Nat) := by
  have hfield : phase.toNat / 2 ^ 15 % 2 ^ 17 = phase.toNat / 2 ^ 15 := by omega
  rw [lfoWave, if_pos h, slice_toNat, hfield]

theorem lfoWave_of_second_half {phase : Phase} (h : 2 ^ 31 ≤ phase.toNat) :
    lfoWave phase = 98303 - (phase.toNat / 2 ^ 15 : Nat) := by
  have hfield : phase.toNat / 2 ^ 15 % 2 ^ 17 = phase.toNat / 2 ^ 15 := by
    have := phase.isLt
    omega
  rw [lfoWave, if_neg (Nat.not_lt.2 h), slice_toNat, hfield]

/-- The triangle as the smaller of its two sides. -/
theorem lfoWave_eq_min (phase : Phase) :
    lfoWave phase =
      min (-32768 + ((phase.toNat / 2 ^ 15 : Nat) : Int)) (98303 - ((phase.toNat / 2 ^ 15 : Nat) : Int)) := by
  rcases Nat.lt_or_ge phase.toNat (2 ^ 31) with h | h
  · rw [lfoWave_of_first_half h]
    omega
  · rw [lfoWave_of_second_half h]
    omega

theorem lfoWave_mirror (phase : Phase) : lfoWave (BitVec.ofNat 32 (2 ^ 32 - 1 - phase.toNat)) = lfoWave phase := by
  have hphase := phase.isLt
  have hmirror : (BitVec.ofNat 32 (2 ^ 32 - 1 - phase.toNat)).toNat = 2 ^ 32 - 1 - phase.toNat := by
    rw [BitVec.toNat_ofNat]
    omega
  rw [lfoWave_eq_min, lfoWave_eq_min, hmirror]
  omega

theorem lfoWave_continuous (phase : Phase) : |lfoWave (phase + 1) - lfoWave phase| ≤ 1 := by
  have hphase := phase.isLt
  have hnext : (phase + 1).toNat = (phase.toNat + 1) % 2 ^ 32 := BitVec.toNat_add phase 1
  rw [lfoWave_eq_min, lfoWave_eq_min, hnext, abs_le]
  omega

/-- Settles O37: the wave is the smaller of a rising and a falling side, which the mirror exchanges. -/
theorem lfoWaveIsTriangle : Obligations.LfoWaveIsTriangle := fun p =>
  ⟨lfoWave_of_first_half, lfoWave_of_second_half, (lfoWave_bounds p).1, (lfoWave_bounds p).2, lfoWave_mirror p,
    lfoWave_continuous p, by decide⟩

end Sys2Proof.Laws

/-! Ticks in a row (41_glide R117, R118, R120, 43_lfo R141, 44_trigger R159, R163, R166). -/

namespace Sys2Proof.Laws

open Sys2Proof.Machine

/-- What holds after no tick, and after one more tick whenever it holds, holds after every number of ticks. -/
theorem ticks_induction {P : Nat → State → Prop} {s : State} (hzero : P 0 s)
    (hsucc : ∀ k t, P k t → P (k + 1) { refreshState t with rsp := none }) (k : Nat) :
    ∃ t, ticks k s = .next t ∧ P k t := by
  induction k with
  | zero => exact ⟨s, ticks_zero s, hzero⟩
  | succ k ih =>
    obtain ⟨t, ht, hP⟩ := ih
    exact ⟨_, ticks_last ht, hsucc k t hP⟩

/-! A ramp from phase zero (41_glide R117, 44_trigger R159 b). -/

/-- Phase and increment `k` ticks after a ramp started at phase 0 with increment `start`: `k` increments far while that
fits 32 bits, then idle. -/
structure RampAfter (start : Phase) (k : Nat) (phase inc : Phase) : Prop where
  running : k * start.toNat < 2 ^ 32 → phase.toNat = k * start.toNat ∧ inc = start
  complete : 2 ^ 32 ≤ k * start.toNat → phase = 0 ∧ inc = 0

theorem RampAfter.zero {start phase : Phase} (h : phase = 0) : RampAfter start 0 phase start where
  running _ := by simp [h]
  complete hover := by omega

/-- It completes with the tick that takes the sum over 32 bits. -/
theorem RampAfter.rampCompletes_iff {start phase inc : Phase} {k : Nat} (h : RampAfter start k phase inc) :
    rampCompletes phase inc = true ↔ k * start.toNat < 2 ^ 32 ∧ 2 ^ 32 ≤ (k + 1) * start.toNat := by
  have hnext : (k + 1) * start.toNat = k * start.toNat + start.toNat := Nat.succ_mul k start.toNat
  rw [Machine.rampCompletes_iff]
  rcases Nat.lt_or_ge (k * start.toNat) (2 ^ 32) with hruns | hdone
  · obtain ⟨hphase, rfl⟩ := h.running hruns
    omega
  · obtain ⟨rfl, rfl⟩ := h.complete hdone
    have hidle : (0 : Phase).toNat = 0 := rfl
    omega

theorem RampAfter.succ {start phase inc : Phase} {k : Nat} (h : RampAfter start k phase inc) :
    RampAfter start (k + 1) (rampPhase phase inc) (rampIncrement phase inc) := by
  have hnext : (k + 1) * start.toNat = k * start.toNat + start.toNat := Nat.succ_mul k start.toNat
  constructor
  · intro hruns
    obtain ⟨hphase, rfl⟩ := h.running (by omega)
    have hsum := ramp_of_le_sum (phase := phase) (inc := inc) (by omega)
    exact ⟨by omega, hsum.2⟩
  · intro hover
    rcases Nat.lt_or_ge (k * start.toNat) (2 ^ 32) with hlast | hdone
    · have hcompletes := h.rampCompletes_iff.2 ⟨hlast, hover⟩
      exact ⟨rampPhase_of_completes _ _ hcompletes, rampIncrement_of_completes _ _ hcompletes⟩
    · obtain ⟨rfl, rfl⟩ := h.complete hdone
      exact ⟨rfl, rfl⟩

/-! The glide (41_glide R117, R118, R120). -/

/-- Where source and target agree the interpolated pitch is there, whatever the level. -/
theorem glidePitch_of_arrived {s : State} {note : Pitch} (hsource : s.noteSource = note)
    (htarget : s.noteTarget = note) :
    BitVec.ofInt 16 (glidePitch s) = note := by
  rw [glidePitch, hsource, htarget, sub_self, zero_mul, asr_zero, add_zero, BitVec.ofInt_toInt]

/-- A tick keeps the source at the target, whether or not a ramp completes, and the pitch is there. -/
theorem refreshState_of_arrived {s : State} {note : Pitch} (hsource : s.noteSource = note)
    (htarget : s.noteTarget = note) :
    (refreshState s).noteSource = note ∧ (refreshState s).noteTarget = note ∧
      (refreshState s).notePortamento = note := by
  have hadvanced : (glideAdvance s).noteSource = note := by
    rw [glideAdvance_noteSource, hsource, htarget, ite_self]
  exact ⟨hadvanced, htarget, glidePitch_of_arrived hadvanced htarget⟩

/-- A glide of `s`, armed at phase 0, after `k` ticks. -/
structure GlideAfter (s : State) (k : Nat) (t : State) : Prop where
  target : t.noteTarget = s.noteTarget
  ramp : RampAfter s.portamentoPhaseIncrement k t.portamentoPhase t.portamentoPhaseIncrement
  running : k * s.portamentoPhaseIncrement.toNat < 2 ^ 32 → t.noteSource = s.noteSource
  complete : 2 ^ 32 ≤ k * s.portamentoPhaseIncrement.toNat →
    t.noteSource = s.noteTarget ∧ t.notePortamento = s.noteTarget

theorem GlideAfter.zero {s : State} (h : s.portamentoPhase = 0) : GlideAfter s 0 s where
  target := rfl
  ramp := .zero h
  running _ := rfl
  complete hover := by omega

/-- The tick on which the ramp completes moves the source to the target; later ticks find it there. -/
theorem GlideAfter.succ {s t : State} {k : Nat} (h : GlideAfter s k t) :
    GlideAfter s (k + 1) { refreshState t with rsp := none } where
  target := h.target
  ramp := h.ramp.succ
  running hruns := by
    have hgoes : ¬ rampCompletes t.portamentoPhase t.portamentoPhaseIncrement = true := fun hcompletes =>
      absurd (h.ramp.rampCompletes_iff.1 hcompletes).2 (Nat.not_le.2 hruns)
    have hless : k * s.portamentoPhaseIncrement.toNat ≤ (k + 1) * s.portamentoPhaseIncrement.toNat :=
      Nat.mul_le_mul_right _ (Nat.le_succ k)
    exact (if_neg hgoes).trans (h.running (hless.trans_lt hruns))
  complete hover := by
    have hsource : (glideAdvance t).noteSource = s.noteTarget := by
      rw [glideAdvance_noteSource]
      split
      next => exact h.target
      next hgoes =>
        have hdone : 2 ^ 32 ≤ k * s.portamentoPhaseIncrement.toNat := by
          by_contra! hlast
          exact hgoes (h.ramp.rampCompletes_iff.2 ⟨hlast, hover⟩)
        exact (h.complete hdone).1
    exact ⟨hsource, glidePitch_of_arrived hsource h.target⟩

/-- Settles O26: every tick takes the ramp one increment further, and at its end the source is the target. -/
theorem glideDuration : Obligations.GlideDuration := by
  intro s hphase _ k
  obtain ⟨t, ht, h⟩ := ticks_induction (P := GlideAfter s) (.zero hphase) (fun _ _ => .succ) k
  refine ⟨t, ht, h.target, fun hruns => ?_, fun hover => ?_⟩
  · obtain ⟨htphase, hinc⟩ := h.ramp.running hruns
    exact ⟨htphase, hinc, h.running hruns⟩
  · obtain ⟨htphase, hinc⟩ := h.ramp.complete hover
    obtain ⟨hsource, hpitch⟩ := h.complete hover
    exact ⟨htphase, hinc, hsource, hpitch⟩

/-- A shape A glide of `s` that does not move: all that the pitch is interpolated from is as it was. -/
structure GlideStalled (s t : State) : Prop where
  phase : t.portamentoPhase = 0
  increment : t.portamentoPhaseIncrement = 0
  shape : t.portamentoExponentialShape = true
  source : t.noteSource = s.noteSource
  target : t.noteTarget = s.noteTarget
  rom : t.rom = s.rom

/-- With no increment the sum does not wrap, and the phase stays where it is. -/
theorem GlideStalled.glideAdvance {s t : State} (h : GlideStalled s t) : GlideStalled s (glideAdvance t) where
  phase := by
    rw [glideAdvance_portamentoPhase, h.phase, h.increment]
    rfl
  increment := by
    rw [glideAdvance_portamentoPhaseIncrement, h.phase, h.increment]
    rfl
  shape := h.shape
  source := by
    rw [glideAdvance_noteSource, h.phase, h.increment]
    exact h.source
  target := h.target
  rom := h.rom

theorem GlideStalled.tick {s t : State} (h : GlideStalled s t) :
    GlideStalled s { refreshState t with rsp := none } :=
  ⟨h.glideAdvance.phase, h.glideAdvance.increment, h.shape, h.glideAdvance.source, h.target, h.rom⟩

/-- At phase 0 the level is the first entry of the curve. -/
theorem GlideStalled.glidePitch_eq {s t : State} (h : GlideStalled s t) :
    glidePitch t = s.noteSource.toInt +
      (s.noteTarget.toInt - s.noteSource.toInt) * (s.rom.envExpo[0].toNat : Int) / 2 ^ 16 := by
  have hlevel : glideLevel t = s.rom.envExpo[0].toNat := by
    rw [glideLevel_of_curve h.shape, h.phase, interp824_of_fraction_zero _ (by decide), ← h.rom]
    exact envExpoAt_inside t (i := 0) (by decide)
  rw [glidePitch, hlevel, h.source, h.target, asr_eq_div]

/-- Settles O27: a tick leaves a stalled glide stalled and stores the pitch of its first level. -/
theorem zeroIncrementGlideStalls : Obligations.ZeroIncrementGlideStalls := by
  intro s hphase hinc hshape k
  obtain ⟨t, ht, h⟩ := ticks_induction (P := fun _ t => GlideStalled s t) ⟨hphase, hinc, hshape, rfl, rfl, rfl⟩
    (fun _ _ => .tick) k
  refine ⟨_, ticks_last ht, h.tick.phase, h.tick.increment, h.tick.source, ?_⟩
  exact (glidePitch_toInt (glideAdvance t)).trans h.glideAdvance.glidePitch_eq

theorem armedSource_of_amount_zero (note : Pitch) (s : State) : armedSource note 0 s = note := by
  rw [armedSource_eq, if_pos rfl]

/-- Settles O28: the glide is armed with its source at its target. -/
theorem noPortamentoReachesTarget : Obligations.NoPortamentoReachesTarget := by
  intro note velocity trigger s k
  have hsource := (noteOnState_noteSource note velocity 0 trigger s).trans (armedSource_of_amount_zero note s)
  have htarget := noteOnState_noteTarget note velocity 0 trigger s
  obtain ⟨t, ht, htsource, httarget⟩ := ticks_induction
    (P := fun _ t => t.noteSource = note ∧ t.noteTarget = note)
    (s := { noteOnState note velocity 0 trigger s with rsp := none }) ⟨hsource, htarget⟩
    (fun _ t h => ⟨(refreshState_of_arrived h.1 h.2).1, h.2⟩) k
  obtain ⟨hsource', htarget', hpitch⟩ := refreshState_of_arrived htsource httarget
  exact ⟨_, _, exec_noteOn note velocity 0 trigger s, noteOnState_notePortamento note velocity 0 trigger s,
    ticks_last ht, hpitch, hsource', htarget'⟩

/-! The oscillator (43_lfo R141). -/

/-- A tick writes no input of the increment. -/
theorem lfoIncrement_tick (s : State) : lfoIncrement { refreshState s with rsp := none } = lfoIncrement s := by
  simp only [lfoIncrement, refreshState_modulationRate, refreshState_rom, refreshState_lfoPllPhaseIncrement]

/-- The phase and the increment of the oscillator `k` ticks after `s`. -/
structure LfoAfter (s : State) (k : Nat) (t : State) : Prop where
  phase : t.lfoPhase.toNat = (s.lfoPhase.toNat + k * (lfoIncrement s).toNat) % 2 ^ 32
  increment : lfoIncrement t = lfoIncrement s

theorem LfoAfter.zero (s : State) : LfoAfter s 0 s where
  phase := by
    rw [Nat.zero_mul, Nat.add_zero, Nat.mod_eq_of_lt s.lfoPhase.isLt]
  increment := rfl

theorem LfoAfter.succ {s t : State} {k : Nat} (h : LfoAfter s k t) :
    LfoAfter s (k + 1) { refreshState t with rsp := none } where
  phase := by
    refine (refreshState_lfoPhase_toNat t).trans ?_
    rw [h.phase, h.increment, Nat.mod_add_mod, Nat.add_assoc, Nat.succ_mul]
  increment := (lfoIncrement_tick t).trans h.increment

/-- Settles O36: one increment per tick, always the same one. -/
theorem lfoRunsFree : Obligations.LfoRunsFree := by
  intro s k
  obtain ⟨t, ht, h⟩ := ticks_induction (LfoAfter.zero s) (fun _ _ => LfoAfter.succ) k
  exact ⟨t, ht, h.phase⟩

/-! The trigger unit (44_trigger R159, R163, R166). -/

/-- The gate, the table and the countdowns `k` ticks after `s`. -/
structure CountdownsAfter (s : State) (k : Nat) (t : State) : Prop where
  gate : t.gate = s.gate
  gap : t.retriggerDelay.toNat = s.retriggerDelay.toNat - k
  pulse : t.triggerPulse.toNat = s.triggerPulse.toNat - k

theorem CountdownsAfter.succ {s t : State} {k : Nat} (h : CountdownsAfter s k t) :
    CountdownsAfter s (k + 1) { refreshState t with rsp := none } where
  gate := h.gate
  gap := (countDown_toNat t.retriggerDelay).trans (by rw [h.gap, Nat.sub_sub])
  pulse := (countDown_toNat t.triggerPulse).trans (by rw [h.pulse, Nat.sub_sub])

theorem ticks_countdowns (s : State) (k : Nat) : ∃ t, ticks k s = .next t ∧ CountdownsAfter s k t :=
  ticks_induction ⟨rfl, rfl, rfl⟩ (fun _ _ => .succ) k

theorem bitVec_ne_zero_iff {w : Nat} (v : BitVec w) : v ≠ 0 ↔ 0 < v.toNat := by
  rw [Nat.pos_iff_ne_zero, ne_eq, ne_eq, ← BitVec.toNat_inj, BitVec.ofNat_eq_ofNat, BitVec.toNat_zero]

/-- A triggered note loads eight ticks for each unit of duration; the ten bits hold them all. -/
theorem noteOnState_triggerPulse_toNat (note : Pitch) (velocity amount : BitVec 7) (s : State) :
    (noteOnState note velocity amount true s).triggerPulse.toNat = 8 * s.triggerDuration.toNat := by
  have hduration := s.triggerDuration.isLt
  rw [noteOnState_triggerPulse, if_pos rfl, BitVec.toNat_ofNat]
  omega

/-- Neither NOTE_OFF nor NOP writes the pulse countdown. -/
theorem exec_release_triggerPulse (released : Bool) (s : State) :
    ∃ t, exec (if released = true then .noteOff else .nop) s = .next t ∧ t.triggerPulse = s.triggerPulse := by
  cases released with
  | true => exact ⟨_, exec_noteOff s, rfl⟩
  | false => exact ⟨_, exec_nop s, rfl⟩

/-- Settles O43: the countdown starts at eight times the duration, and TRIG_OUT is high while it is not zero. -/
theorem pulseWidthIsExact : Obligations.PulseWidthIsExact := by
  intro note velocity amount s released k
  have hstart := noteOnState_triggerPulse_toNat note velocity amount s
  obtain ⟨u, hu, hupulse⟩ :=
    exec_release_triggerPulse released { noteOnState note velocity amount true s with rsp := none }
  obtain ⟨v, hv, h⟩ := ticks_countdowns u k
  have hpulse : v.triggerPulse.toNat = 8 * s.triggerDuration.toNat - k := by rw [h.pulse, hupulse, hstart]
  refine ⟨_, u, v, exec_noteOn note velocity amount true s, hu, hv, hpulse, ?_⟩
  rw [← Nat.sub_pos_iff_lt, ← hpulse, ← bitVec_ne_zero_iff]
  exact trigOut_eq_true_iff v

/-- Settles O45: the gap starts at two ticks, and GATE_OUT is high once it is over. -/
theorem retriggerGapIsTwoTicks : Obligations.RetriggerGapIsTwoTicks := by
  intro note velocity amount s k hgate
  have hstart : (noteOnState note velocity amount true s).retriggerDelay = 2 := by
    rw [noteOnState_retriggerDelay, hgate]
    rfl
  obtain ⟨u, hu, h⟩ := ticks_countdowns { noteOnState note velocity amount true s with rsp := none } k
  have hugate : u.gate = true := h.gate.trans (noteOnState_gate note velocity amount true s)
  have hugap : u.retriggerDelay.toNat = 2 - k := h.gap.trans (by rw [hstart]; rfl)
  refine ⟨_, u, exec_noteOn note velocity amount true s, hu, ?_⟩
  have hzero : u.retriggerDelay = 0 ↔ 2 ≤ k := by
    rw [← Nat.sub_eq_zero_iff_le, ← hugap, ← BitVec.toNat_inj]
    rfl
  exact (gateOut_eq_true_iff u).trans ((and_iff_right hugate).trans hzero)

/-- Settles O44: the envelope ramps as the glide does, and at phase 0 OUT_TRIG shows the zero-volt entry. -/
theorem envelopeDuration : Obligations.EnvelopeDuration := by
  intro s hphase k
  obtain ⟨t, ht, hramp, hcal⟩ := ticks_induction
    (P := fun k t => RampAfter s.triggerPhaseIncrement k t.triggerPhase t.triggerPhaseIncrement ∧ t.cal = s.cal)
    ⟨.zero hphase, rfl⟩ (fun _ _ h => ⟨h.1.succ, h.2⟩) k
  have hidle : t.triggerPhase = 0 → t.outputs.outTrig = s.cal[3] := fun hzero => by
    have hcode := trigCode_of_phase_le (s := t) (by rw [hzero]; exact Nat.zero_le _)
    simp only [hcal] at hcode
    exact hcode
  refine ⟨t, ht, hramp.running, fun hover => ?_, fun hinc => hidle ?_⟩
  · obtain ⟨htphase, htinc⟩ := hramp.complete hover
    exact ⟨htphase, htinc, hidle htphase⟩
  · have hproduct : k * s.triggerPhaseIncrement.toNat = 0 := by rw [hinc]; rfl
    obtain ⟨htphase, -⟩ := hramp.running (by omega)
    exact BitVec.eq_of_toNat_eq (htphase.trans hproduct)

end Sys2Proof.Laws

/-! REFRESH as a whole (42_pitch_pipeline R125 to R128) and what the envelope code reads (44_trigger R160). -/

namespace Sys2Proof.Laws

open Sys2Proof.Machine

theorem decodeWord_eq_refresh {w : CmdWord} (h : w.toNat / 2 ^ 36 = 8) : decodeWord w = .refresh := by
  simp only [decodeWord, opcode_toNat, h]

/-- What a tick writes; `dirty` is the only element it leaves at a fixed value. -/
theorem refreshState_frame (s : State) :
    refreshState s = { s with
      noteSource := (refreshState s).noteSource
      notePortamento := (refreshState s).notePortamento
      portamentoPhase := (refreshState s).portamentoPhase
      portamentoPhaseIncrement := (refreshState s).portamentoPhaseIncrement
      lfoPhase := (refreshState s).lfoPhase
      aux := (refreshState s).aux
      retriggerDelay := (refreshState s).retriggerDelay
      triggerPulse := (refreshState s).triggerPulse
      triggerPhase := (refreshState s).triggerPhase
      triggerPhaseIncrement := (refreshState s).triggerPhaseIncrement
      noteDacCode := (refreshState s).noteDacCode
      currentNote := (refreshState s).currentNote
      dirty := false } := by
  rw [← refreshState_dirty_eq_false s]
  rfl

/-- Settles O29: the frame of the nine steps of a tick. -/
theorem refreshFrame : Obligations.RefreshFrame := by
  refine ⟨⟨by decide, fun _ => decodeWord_eq_refresh⟩, fun s => ⟨_, exec_refresh_eq_next_iff.2 rfl, ?_⟩⟩
  exact congrArg (fun t : State => { t with rsp := none }) (refreshState_frame s)

/-! The gate in a tick (R125). -/

theorem refreshState_eq_publish (s : State) :
    refreshState s = publish (composedPitch s)
      (trigStep (countdownStep (auxUpdate (lfoWave (s.lfoPhase + lfoIncrement s)) (lfoStep (glideStep s))))) := rfl

theorem lfoIncrement_with_gate (s : State) (g : Bool) : lfoIncrement { s with gate := g } = lfoIncrement s := rfl

theorem composedPitch_with_gate (s : State) (g : Bool) : composedPitch { s with gate := g } = composedPitch s := rfl

theorem refreshState_with_gate (s : State) (g : Bool) :
    refreshState { s with gate := g } = { refreshState s with gate := g } := by
  rw [refreshState_eq_publish, refreshState_eq_publish s, composedPitch_with_gate, lfoIncrement_with_gate]
  rfl

/-- Settles O34: a tick of the state with another gate is the tick with that gate. -/
theorem refreshIgnoresGate : Obligations.RefreshIgnoresGate := by
  intro s t g h
  obtain rfl := exec_refresh_eq_next_iff.1 h
  refine ⟨refreshState_gate s, exec_refresh_eq_next_iff.2 ?_⟩
  exact congrArg (fun t : State => { t with rsp := none }) (refreshState_with_gate s g).symm

/-! Bounds and freshness (R127, R128). -/

/-- Settles O31: the interpolated pitch is between source and target, the composed pitch is the sum of bounded terms,
and the code is fresh if it was fresh before. -/
theorem refreshPitchBoundsAndFreshCode : Obligations.RefreshPitchBoundsAndFreshCode := by
  intro s t h
  obtain rfl := exec_refresh_eq_next_iff.1 h
  have hpitch := glidePitch_between (glideAdvance s)
  have hcomposed := composedPitch_bounds s
  rw [← glidePitch_toInt] at hpitch
  rw [← refreshState_currentNote_toInt] at hcomposed
  exact ⟨hpitch.1, hpitch.2, hcomposed.1, hcomposed.2, fun hgood => refreshState_noteDacCode_fresh hgood.codeFresh⟩

/-! What the envelope code reads (44_trigger R160, R161). -/

theorem shapeValue_congr {s s' : State} (hphase : s.triggerPhase = s'.triggerPhase)
    (hshape : s.triggerShape = s'.triggerShape) (hrom : s.rom.trigWave = s'.rom.trigWave) :
    shapeValue s = shapeValue s' := by
  have hwave : trigWaveAt s = trigWaveAt s' := by
    funext k i
    rw [trigWaveAt, trigWaveAt, hrom]
  rw [shapeValue, shapeValue, hphase, hshape, hwave]

theorem scaledShape_congr {s s' : State} (hvalue : shapeValue s = shapeValue s')
    (hscale : s.triggerScale = s'.triggerScale) (hvelocity : s.modVelocity = s'.modVelocity) :
    scaledShape s = scaledShape s' := by
  rw [scaledShape, scaledShape, hvalue, hscale, hvelocity]

/-- Settles O41: up to one increment past zero the code is entry 3, beyond it the scaled shape value between entries 3
and 8. -/
theorem trigCodeDependsOnlyOn : Obligations.TrigCodeDependsOnlyOn := by
  intro s s' hphase hinc hshape hscale hvelocity hzero htop hrom
  rcases Nat.lt_or_ge s.triggerPhaseIncrement.toNat s.triggerPhase.toNat with hruns | hidle
  · have hscaled := scaledShape_congr (shapeValue_congr hphase hshape hrom) hscale hvelocity
    rw [trigCode_of_increment_lt hruns, trigCode_of_increment_lt (hphase ▸ hinc ▸ hruns), hzero, htop, hscaled]
  · rw [trigCode_of_phase_le hidle, trigCode_of_phase_le (hphase ▸ hinc ▸ hidle), hzero]

end Sys2Proof.Laws

/-! The invariant of a run (10_state R25, R37 to R39, R41, 42_pitch_pipeline R127, R128): it holds at reset and every
step keeps it, command by command. -/

namespace Sys2Proof.Laws

open Sys2Proof.Machine

/-- A ramp that is left with no increment, because it completed or had none, is left at phase 0. -/
theorem ramp_idle {phase inc : Phase} (h : inc = 0 → phase = 0) :
    rampIncrement phase inc = 0 → rampPhase phase inc = 0 := by
  intro hinc
  by_cases hcompletes : rampCompletes phase inc = true
  · exact rampPhase_of_completes phase inc hcompletes
  · have hgoes := Bool.eq_false_of_not_eq_true hcompletes
    rw [rampIncrement_of_runs phase inc hgoes] at hinc
    rw [rampPhase_of_runs phase inc hgoes, hinc, h hinc]
    rfl

/-- Settles O58: the pitch code at reset is that of the default table, and everything that counts or ramps is idle. -/
theorem resetIsGood : Obligations.ResetIsGood where
  codeFresh _ := (quantize_reset_pitch State.reset.cal).symm
  pitchLow := by decide
  pitchHigh := by decide
  gapBound := by decide
  pulseBound := by decide
  auxSeven := rfl
  glideIdle _ := rfl
  envelopeIdle _ := rfl

/-- INIT leaves the reset state but for the table, on which it computes the code. -/
theorem goodState_initState (rc : Bool) (s : State) : GoodState (initState rc s) :=
  { resetIsGood with
    codeFresh := fun _ => rfl
    auxSeven := rfl }

theorem goodState_refreshState {s : State} (h : GoodState s) : GoodState (refreshState s) where
  codeFresh _ := refreshState_noteDacCode_fresh h.codeFresh
  pitchLow := (refreshState_currentNote_toInt s).symm ▸ (composedPitch_bounds s).1
  pitchHigh := (refreshState_currentNote_toInt s).symm ▸ (composedPitch_bounds s).2
  gapBound := by
    have hgap := h.gapBound
    rw [refreshState_retriggerDelay, countDown_toNat]
    omega
  pulseBound := by
    have hpulse := h.pulseBound
    rw [refreshState_triggerPulse, countDown_toNat]
    omega
  auxSeven := (refreshState_aux_getElem s (by decide)).trans h.auxSeven
  glideIdle := ramp_idle h.glideIdle
  envelopeIdle := ramp_idle h.envelopeIdle

theorem goodState_noteOnState {s : State} (h : GoodState s) (note : Pitch) (velocity amount : BitVec 7)
    (trigger : Bool) : GoodState (noteOnState note velocity amount trigger s) := by
  cases trigger with
  | false => exact { h with glideIdle := fun _ => rfl }
  | true =>
    refine { h with gapBound := ?_, pulseBound := ?_, glideIdle := fun _ => rfl, envelopeIdle := fun _ => rfl }
    · have hgap := h.gapBound
      rw [noteOnState_retriggerDelay]
      split
      next => exact le_rfl
      next => exact hgap
    · have hduration := s.triggerDuration.isLt
      have hpulse := noteOnState_triggerPulse_toNat note velocity amount s
      omega

/-- A written entry leaves a stale code, and `dirty` set. -/
theorem goodState_written {s : State} (h : GoodState s) (cal : Vector Code 11) :
    GoodState { s with cal := cal, dirty := true } :=
  { h with codeFresh := fun hclear => Bool.noConfusion hclear }

theorem goodState_controlState {s : State} (h : GoodState s) (controller value : BitVec 7) :
    GoodState (controlState controller value s) := by
  have hseven : (controlState controller value s).aux[7] = s.aux[7] := by
    by_contra hchanged
    have := controlState_aux_getElem_of_ne (by decide) hchanged
    omega
  rw [controlState_eq] at hseven ⊢
  exact { h with auxSeven := hseven.trans h.auxSeven }

/-- The invariant is about neither what the host presents nor the response. -/
theorem goodState_with_ports {s : State} (h : GoodState s) (stream : List PortEvent) (response : Option Code) :
    GoodState { s with hostStream := stream, rsp := response } :=
  { h with }

/-- Every command keeps a good state good. -/
theorem goodState_commandState {s : State} (h : GoodState s) (i : Instr) : GoodState (commandState i s) := by
  cases i with
  | init rc => exact goodState_initState rc s
  | calWrite idx code =>
    rw [commandState]
    split
    next => exact goodState_written h _
    next => exact h
  | noteOn note velocity amount trigger => exact goodState_noteOnState h note velocity amount trigger
  | controlChange controller value => exact goodState_controlState h controller value
  | cfgWrite reg data =>
    rw [commandState, cfgState_frame]
    exact { h with }
  | refresh => exact goodState_refreshState h
  | noteOff | pitchBend => exact { h with }
  | nop | rdNote | rdTrig | rdAux | rdStatus | rdCal | reservedE | reservedF => exact h

/-- Settles O57: a step waits, resets, or executes a command on the state without its word. -/
theorem stepKeepsGoodState : Obligations.StepKeepsGoodState := by
  intro s t h hstep
  rcases step_cases s with ⟨-, hwaits⟩ | ⟨rest, -, hresets⟩ | ⟨w, rest, -, hexecutes⟩
  · obtain rfl := Host.Outcome.next.inj (hwaits.symm.trans hstep)
    exact goodState_with_ports h _ _
  · obtain rfl := Host.Outcome.next.inj (hresets.symm.trans hstep)
    exact goodState_with_ports (goodState_initState true _) _ _
  · obtain rfl := exec_eq_next_iff.1 (hexecutes.symm.trans hstep)
    exact goodState_with_ports (goodState_commandState (goodState_with_ports h rest s.rsp) (decodeWord w)) _ _

end Sys2Proof.Laws
